-- ==== Sys2Proof/Word.lean ====
section
/-! DEFINITION. The word types: the bus and the registers are 8 bits wide, addresses and register
pairs 16 bits (00_scope.md R8). -/

namespace Sys2Proof

/-- One byte: the data width (R8). -/
abbrev Byte := BitVec 8

/-- One address or register pair: the address width (R8). -/
abbrev Word := BitVec 16

end Sys2Proof
end

