-- ==== Sys2Proof/Syntax.lean ====
section
/-! DEFINITION. The instructions as syntax: one constructor for each row of opcode_table.json, with
the immediates the row's encoding holds, and the operand fields of 30_encoding.md section 2. The 0xCB
prefix byte has no row. A constructor's name is its row's mnemonic in lower case; `at` marks a memory
operand: `atHL` is (HL), `atN16` is (n16), `atN8` is (0xFF00 + n8), `atC` is (0xFF00 + C). -/

namespace Sys2Proof

/-- The 8-bit register operands; the field code 0b110 names the byte at HL and is no register
(R123, R134). -/
inductive Reg8 where
  | b | c | d | e | h | l | a
  deriving DecidableEq, Repr

/-- The field code of a register (R123). -/
def Reg8.code : Reg8 → BitVec 3
  | .b => 0b000
  | .c => 0b001
  | .d => 0b010
  | .e => 0b011
  | .h => 0b100
  | .l => 0b101
  | .a => 0b111

/-- The 16-bit operand of LD rr,n16, INC rr, DEC rr and ADD HL,rr (R124). -/
inductive Pair16 where
  | bc | de | hl | sp
  deriving DecidableEq, Repr

/-- The field code of that operand (R124). -/
def Pair16.code : Pair16 → BitVec 2
  | .bc => 0b00
  | .de => 0b01
  | .hl => 0b10
  | .sp => 0b11

/-- The 16-bit operand of PUSH and POP (R124). -/
inductive StackPair where
  | bc | de | hl | af
  deriving DecidableEq, Repr

/-- The field code of that operand (R124). -/
def StackPair.code : StackPair → BitVec 2
  | .bc => 0b00
  | .de => 0b01
  | .hl => 0b10
  | .af => 0b11

/-- The condition codes (R125). -/
inductive Cond where
  | nz | z | nc | c
  deriving DecidableEq, Repr

/-- The field code of a condition (R125). -/
def Cond.code : Cond → BitVec 2
  | .nz => 0b00
  | .z => 0b01
  | .nc => 0b10
  | .c => 0b11

/-- The eight operations on A (41_alu8.md section 2). -/
inductive AluOp where
  | add | adc | sub | sbc | and | xor | or | cp
  deriving DecidableEq, Repr

/-- The operation's field code (41_alu8.md section 2). -/
def AluOp.code : AluOp → BitVec 3
  | .add => 0b000
  | .adc => 0b001
  | .sub => 0b010
  | .sbc => 0b011
  | .and => 0b100
  | .xor => 0b101
  | .or => 0b110
  | .cp => 0b111

/-- The rotates, shifts and SWAP of the prefixed page (R129). -/
inductive RotOp where
  | rlc | rrc | rl | rr | sla | sra | swap | srl
  deriving DecidableEq, Repr

/-- The operation's field code (R129). -/
def RotOp.code : RotOp → BitVec 3
  | .rlc => 0b000
  | .rrc => 0b001
  | .rl => 0b010
  | .rr => 0b011
  | .sla => 0b100
  | .sra => 0b101
  | .swap => 0b110
  | .srl => 0b111

/-- The instructions in the table's order, the unprefixed page and then the 0xCB page (R130, R131). The
eleven `illegal_…` rows, the bytes that are not instructions (R132), stand at the end. -/
inductive Instr where
  | nop
  | ld_bc_n16 (nn : Word)
  | ld_atBC_a
  | inc_bc
  | inc_b
  | dec_b
  | ld_b_n8 (n : Byte)
  | rlca
  | ld_atN16_sp (nn : Word)
  | add_hl_bc
  | ld_a_atBC
  | dec_bc
  | inc_c
  | dec_c
  | ld_c_n8 (n : Byte)
  | rrca
  | stop (n : Byte)
  | ld_de_n16 (nn : Word)
  | ld_atDE_a
  | inc_de
  | inc_d
  | dec_d
  | ld_d_n8 (n : Byte)
  | rla
  | jr_e8 (e : Byte)
  | add_hl_de
  | ld_a_atDE
  | dec_de
  | inc_e
  | dec_e
  | ld_e_n8 (n : Byte)
  | rra
  | jr_nz_e8 (e : Byte)
  | ld_hl_n16 (nn : Word)
  | ld_atHLinc_a
  | inc_hl
  | inc_h
  | dec_h
  | ld_h_n8 (n : Byte)
  | daa
  | jr_z_e8 (e : Byte)
  | add_hl_hl
  | ld_a_atHLinc
  | dec_hl
  | inc_l
  | dec_l
  | ld_l_n8 (n : Byte)
  | cpl
  | jr_nc_e8 (e : Byte)
  | ld_sp_n16 (nn : Word)
  | ld_atHLdec_a
  | inc_sp
  | inc_atHL
  | dec_atHL
  | ld_atHL_n8 (n : Byte)
  | scf
  | jr_c_e8 (e : Byte)
  | add_hl_sp
  | ld_a_atHLdec
  | dec_sp
  | inc_a
  | dec_a
  | ld_a_n8 (n : Byte)
  | ccf
  | ld_b_b
  | ld_b_c
  | ld_b_d
  | ld_b_e
  | ld_b_h
  | ld_b_l
  | ld_b_atHL
  | ld_b_a
  | ld_c_b
  | ld_c_c
  | ld_c_d
  | ld_c_e
  | ld_c_h
  | ld_c_l
  | ld_c_atHL
  | ld_c_a
  | ld_d_b
  | ld_d_c
  | ld_d_d
  | ld_d_e
  | ld_d_h
  | ld_d_l
  | ld_d_atHL
  | ld_d_a
  | ld_e_b
  | ld_e_c
  | ld_e_d
  | ld_e_e
  | ld_e_h
  | ld_e_l
  | ld_e_atHL
  | ld_e_a
  | ld_h_b
  | ld_h_c
  | ld_h_d
  | ld_h_e
  | ld_h_h
  | ld_h_l
  | ld_h_atHL
  | ld_h_a
  | ld_l_b
  | ld_l_c
  | ld_l_d
  | ld_l_e
  | ld_l_h
  | ld_l_l
  | ld_l_atHL
  | ld_l_a
  | ld_atHL_b
  | ld_atHL_c
  | ld_atHL_d
  | ld_atHL_e
  | ld_atHL_h
  | ld_atHL_l
  | halt
  | ld_atHL_a
  | ld_a_b
  | ld_a_c
  | ld_a_d
  | ld_a_e
  | ld_a_h
  | ld_a_l
  | ld_a_atHL
  | ld_a_a
  | add_a_b
  | add_a_c
  | add_a_d
  | add_a_e
  | add_a_h
  | add_a_l
  | add_a_atHL
  | add_a_a
  | adc_a_b
  | adc_a_c
  | adc_a_d
  | adc_a_e
  | adc_a_h
  | adc_a_l
  | adc_a_atHL
  | adc_a_a
  | sub_a_b
  | sub_a_c
  | sub_a_d
  | sub_a_e
  | sub_a_h
  | sub_a_l
  | sub_a_atHL
  | sub_a_a
  | sbc_a_b
  | sbc_a_c
  | sbc_a_d
  | sbc_a_e
  | sbc_a_h
  | sbc_a_l
  | sbc_a_atHL
  | sbc_a_a
  | and_a_b
  | and_a_c
  | and_a_d
  | and_a_e
  | and_a_h
  | and_a_l
  | and_a_atHL
  | and_a_a
  | xor_a_b
  | xor_a_c
  | xor_a_d
  | xor_a_e
  | xor_a_h
  | xor_a_l
  | xor_a_atHL
  | xor_a_a
  | or_a_b
  | or_a_c
  | or_a_d
  | or_a_e
  | or_a_h
  | or_a_l
  | or_a_atHL
  | or_a_a
  | cp_a_b
  | cp_a_c
  | cp_a_d
  | cp_a_e
  | cp_a_h
  | cp_a_l
  | cp_a_atHL
  | cp_a_a
  | ret_nz
  | pop_bc
  | jp_nz_n16 (nn : Word)
  | jp_n16 (nn : Word)
  | call_nz_n16 (nn : Word)
  | push_bc
  | add_a_n8 (n : Byte)
  | rst_00
  | ret_z
  | ret
  | jp_z_n16 (nn : Word)
  | call_z_n16 (nn : Word)
  | call_n16 (nn : Word)
  | adc_a_n8 (n : Byte)
  | rst_08
  | ret_nc
  | pop_de
  | jp_nc_n16 (nn : Word)
  | call_nc_n16 (nn : Word)
  | push_de
  | sub_a_n8 (n : Byte)
  | rst_10
  | ret_c
  | reti
  | jp_c_n16 (nn : Word)
  | call_c_n16 (nn : Word)
  | sbc_a_n8 (n : Byte)
  | rst_18
  | ldh_atN8_a (n : Byte)
  | pop_hl
  | ld_atC_a
  | push_hl
  | and_a_n8 (n : Byte)
  | rst_20
  | add_sp_e8 (e : Byte)
  | jp_hl
  | ld_atN16_a (nn : Word)
  | xor_a_n8 (n : Byte)
  | rst_28
  | ldh_a_atN8 (n : Byte)
  | pop_af
  | ld_a_atC
  | di
  | push_af
  | or_a_n8 (n : Byte)
  | rst_30
  | ld_hl_sp_e8 (e : Byte)
  | ld_sp_hl
  | ld_a_atN16 (nn : Word)
  | ei
  | cp_a_n8 (n : Byte)
  | rst_38
  | rlc_b
  | rlc_c
  | rlc_d
  | rlc_e
  | rlc_h
  | rlc_l
  | rlc_atHL
  | rlc_a
  | rrc_b
  | rrc_c
  | rrc_d
  | rrc_e
  | rrc_h
  | rrc_l
  | rrc_atHL
  | rrc_a
  | rl_b
  | rl_c
  | rl_d
  | rl_e
  | rl_h
  | rl_l
  | rl_atHL
  | rl_a
  | rr_b
  | rr_c
  | rr_d
  | rr_e
  | rr_h
  | rr_l
  | rr_atHL
  | rr_a
  | sla_b
  | sla_c
  | sla_d
  | sla_e
  | sla_h
  | sla_l
  | sla_atHL
  | sla_a
  | sra_b
  | sra_c
  | sra_d
  | sra_e
  | sra_h
  | sra_l
  | sra_atHL
  | sra_a
  | swap_b
  | swap_c
  | swap_d
  | swap_e
  | swap_h
  | swap_l
  | swap_atHL
  | swap_a
  | srl_b
  | srl_c
  | srl_d
  | srl_e
  | srl_h
  | srl_l
  | srl_atHL
  | srl_a
  | bit_0_b
  | bit_0_c
  | bit_0_d
  | bit_0_e
  | bit_0_h
  | bit_0_l
  | bit_0_atHL
  | bit_0_a
  | bit_1_b
  | bit_1_c
  | bit_1_d
  | bit_1_e
  | bit_1_h
  | bit_1_l
  | bit_1_atHL
  | bit_1_a
  | bit_2_b
  | bit_2_c
  | bit_2_d
  | bit_2_e
  | bit_2_h
  | bit_2_l
  | bit_2_atHL
  | bit_2_a
  | bit_3_b
  | bit_3_c
  | bit_3_d
  | bit_3_e
  | bit_3_h
  | bit_3_l
  | bit_3_atHL
  | bit_3_a
  | bit_4_b
  | bit_4_c
  | bit_4_d
  | bit_4_e
  | bit_4_h
  | bit_4_l
  | bit_4_atHL
  | bit_4_a
  | bit_5_b
  | bit_5_c
  | bit_5_d
  | bit_5_e
  | bit_5_h
  | bit_5_l
  | bit_5_atHL
  | bit_5_a
  | bit_6_b
  | bit_6_c
  | bit_6_d
  | bit_6_e
  | bit_6_h
  | bit_6_l
  | bit_6_atHL
  | bit_6_a
  | bit_7_b
  | bit_7_c
  | bit_7_d
  | bit_7_e
  | bit_7_h
  | bit_7_l
  | bit_7_atHL
  | bit_7_a
  | res_0_b
  | res_0_c
  | res_0_d
  | res_0_e
  | res_0_h
  | res_0_l
  | res_0_atHL
  | res_0_a
  | res_1_b
  | res_1_c
  | res_1_d
  | res_1_e
  | res_1_h
  | res_1_l
  | res_1_atHL
  | res_1_a
  | res_2_b
  | res_2_c
  | res_2_d
  | res_2_e
  | res_2_h
  | res_2_l
  | res_2_atHL
  | res_2_a
  | res_3_b
  | res_3_c
  | res_3_d
  | res_3_e
  | res_3_h
  | res_3_l
  | res_3_atHL
  | res_3_a
  | res_4_b
  | res_4_c
  | res_4_d
  | res_4_e
  | res_4_h
  | res_4_l
  | res_4_atHL
  | res_4_a
  | res_5_b
  | res_5_c
  | res_5_d
  | res_5_e
  | res_5_h
  | res_5_l
  | res_5_atHL
  | res_5_a
  | res_6_b
  | res_6_c
  | res_6_d
  | res_6_e
  | res_6_h
  | res_6_l
  | res_6_atHL
  | res_6_a
  | res_7_b
  | res_7_c
  | res_7_d
  | res_7_e
  | res_7_h
  | res_7_l
  | res_7_atHL
  | res_7_a
  | set_0_b
  | set_0_c
  | set_0_d
  | set_0_e
  | set_0_h
  | set_0_l
  | set_0_atHL
  | set_0_a
  | set_1_b
  | set_1_c
  | set_1_d
  | set_1_e
  | set_1_h
  | set_1_l
  | set_1_atHL
  | set_1_a
  | set_2_b
  | set_2_c
  | set_2_d
  | set_2_e
  | set_2_h
  | set_2_l
  | set_2_atHL
  | set_2_a
  | set_3_b
  | set_3_c
  | set_3_d
  | set_3_e
  | set_3_h
  | set_3_l
  | set_3_atHL
  | set_3_a
  | set_4_b
  | set_4_c
  | set_4_d
  | set_4_e
  | set_4_h
  | set_4_l
  | set_4_atHL
  | set_4_a
  | set_5_b
  | set_5_c
  | set_5_d
  | set_5_e
  | set_5_h
  | set_5_l
  | set_5_atHL
  | set_5_a
  | set_6_b
  | set_6_c
  | set_6_d
  | set_6_e
  | set_6_h
  | set_6_l
  | set_6_atHL
  | set_6_a
  | set_7_b
  | set_7_c
  | set_7_d
  | set_7_e
  | set_7_h
  | set_7_l
  | set_7_atHL
  | set_7_a
  | illegal_d3
  | illegal_db
  | illegal_dd
  | illegal_e3
  | illegal_e4
  | illegal_eb
  | illegal_ec
  | illegal_ed
  | illegal_f4
  | illegal_fc
  | illegal_fd
  deriving DecidableEq, Repr

/-! ### The rows of a form

Each definition below names the rows of one form by its operand fields. -/

/-- LD r,r' (R202). -/
def Instr.ldRegReg : Reg8 → Reg8 → Instr
  | .b, .b => .ld_b_b
  | .b, .c => .ld_b_c
  | .b, .d => .ld_b_d
  | .b, .e => .ld_b_e
  | .b, .h => .ld_b_h
  | .b, .l => .ld_b_l
  | .b, .a => .ld_b_a
  | .c, .b => .ld_c_b
  | .c, .c => .ld_c_c
  | .c, .d => .ld_c_d
  | .c, .e => .ld_c_e
  | .c, .h => .ld_c_h
  | .c, .l => .ld_c_l
  | .c, .a => .ld_c_a
  | .d, .b => .ld_d_b
  | .d, .c => .ld_d_c
  | .d, .d => .ld_d_d
  | .d, .e => .ld_d_e
  | .d, .h => .ld_d_h
  | .d, .l => .ld_d_l
  | .d, .a => .ld_d_a
  | .e, .b => .ld_e_b
  | .e, .c => .ld_e_c
  | .e, .d => .ld_e_d
  | .e, .e => .ld_e_e
  | .e, .h => .ld_e_h
  | .e, .l => .ld_e_l
  | .e, .a => .ld_e_a
  | .h, .b => .ld_h_b
  | .h, .c => .ld_h_c
  | .h, .d => .ld_h_d
  | .h, .e => .ld_h_e
  | .h, .h => .ld_h_h
  | .h, .l => .ld_h_l
  | .h, .a => .ld_h_a
  | .l, .b => .ld_l_b
  | .l, .c => .ld_l_c
  | .l, .d => .ld_l_d
  | .l, .e => .ld_l_e
  | .l, .h => .ld_l_h
  | .l, .l => .ld_l_l
  | .l, .a => .ld_l_a
  | .a, .b => .ld_a_b
  | .a, .c => .ld_a_c
  | .a, .d => .ld_a_d
  | .a, .e => .ld_a_e
  | .a, .h => .ld_a_h
  | .a, .l => .ld_a_l
  | .a, .a => .ld_a_a

/-- LD r,n8 (R203). -/
def Instr.ldRegImm : Reg8 → Byte → Instr
  | .b, n => .ld_b_n8 n
  | .c, n => .ld_c_n8 n
  | .d, n => .ld_d_n8 n
  | .e, n => .ld_e_n8 n
  | .h, n => .ld_h_n8 n
  | .l, n => .ld_l_n8 n
  | .a, n => .ld_a_n8 n

/-- LD r,(HL) (R204). -/
def Instr.ldRegAtHL : Reg8 → Instr
  | .b => .ld_b_atHL
  | .c => .ld_c_atHL
  | .d => .ld_d_atHL
  | .e => .ld_e_atHL
  | .h => .ld_h_atHL
  | .l => .ld_l_atHL
  | .a => .ld_a_atHL

/-- LD (HL),r (R205). -/
def Instr.ldAtHLReg : Reg8 → Instr
  | .b => .ld_atHL_b
  | .c => .ld_atHL_c
  | .d => .ld_atHL_d
  | .e => .ld_atHL_e
  | .h => .ld_atHL_h
  | .l => .ld_atHL_l
  | .a => .ld_atHL_a

/-- LD rr,n16 (R221). -/
def Instr.ldPairImm : Pair16 → Word → Instr
  | .bc, nn => .ld_bc_n16 nn
  | .de, nn => .ld_de_n16 nn
  | .hl, nn => .ld_hl_n16 nn
  | .sp, nn => .ld_sp_n16 nn

/-- PUSH rr (R224). -/
def Instr.push : StackPair → Instr
  | .bc => .push_bc
  | .de => .push_de
  | .hl => .push_hl
  | .af => .push_af

/-- POP rr (R225). -/
def Instr.pop : StackPair → Instr
  | .bc => .pop_bc
  | .de => .pop_de
  | .hl => .pop_hl
  | .af => .pop_af

/-- The eight operations on A with a register (R250 to R271). -/
def Instr.aluReg : AluOp → Reg8 → Instr
  | .add, .b => .add_a_b
  | .add, .c => .add_a_c
  | .add, .d => .add_a_d
  | .add, .e => .add_a_e
  | .add, .h => .add_a_h
  | .add, .l => .add_a_l
  | .add, .a => .add_a_a
  | .adc, .b => .adc_a_b
  | .adc, .c => .adc_a_c
  | .adc, .d => .adc_a_d
  | .adc, .e => .adc_a_e
  | .adc, .h => .adc_a_h
  | .adc, .l => .adc_a_l
  | .adc, .a => .adc_a_a
  | .sub, .b => .sub_a_b
  | .sub, .c => .sub_a_c
  | .sub, .d => .sub_a_d
  | .sub, .e => .sub_a_e
  | .sub, .h => .sub_a_h
  | .sub, .l => .sub_a_l
  | .sub, .a => .sub_a_a
  | .sbc, .b => .sbc_a_b
  | .sbc, .c => .sbc_a_c
  | .sbc, .d => .sbc_a_d
  | .sbc, .e => .sbc_a_e
  | .sbc, .h => .sbc_a_h
  | .sbc, .l => .sbc_a_l
  | .sbc, .a => .sbc_a_a
  | .and, .b => .and_a_b
  | .and, .c => .and_a_c
  | .and, .d => .and_a_d
  | .and, .e => .and_a_e
  | .and, .h => .and_a_h
  | .and, .l => .and_a_l
  | .and, .a => .and_a_a
  | .xor, .b => .xor_a_b
  | .xor, .c => .xor_a_c
  | .xor, .d => .xor_a_d
  | .xor, .e => .xor_a_e
  | .xor, .h => .xor_a_h
  | .xor, .l => .xor_a_l
  | .xor, .a => .xor_a_a
  | .or, .b => .or_a_b
  | .or, .c => .or_a_c
  | .or, .d => .or_a_d
  | .or, .e => .or_a_e
  | .or, .h => .or_a_h
  | .or, .l => .or_a_l
  | .or, .a => .or_a_a
  | .cp, .b => .cp_a_b
  | .cp, .c => .cp_a_c
  | .cp, .d => .cp_a_d
  | .cp, .e => .cp_a_e
  | .cp, .h => .cp_a_h
  | .cp, .l => .cp_a_l
  | .cp, .a => .cp_a_a

/-- The eight operations on A with an immediate (R251 to R272). -/
def Instr.aluImm : AluOp → Byte → Instr
  | .add, n => .add_a_n8 n
  | .adc, n => .adc_a_n8 n
  | .sub, n => .sub_a_n8 n
  | .sbc, n => .sbc_a_n8 n
  | .and, n => .and_a_n8 n
  | .xor, n => .xor_a_n8 n
  | .or, n => .or_a_n8 n
  | .cp, n => .cp_a_n8 n

/-- The eight operations on A with (HL) (R252 to R273). -/
def Instr.aluAtHL : AluOp → Instr
  | .add => .add_a_atHL
  | .adc => .adc_a_atHL
  | .sub => .sub_a_atHL
  | .sbc => .sbc_a_atHL
  | .and => .and_a_atHL
  | .xor => .xor_a_atHL
  | .or => .or_a_atHL
  | .cp => .cp_a_atHL

/-- INC r (R274). -/
def Instr.incReg : Reg8 → Instr
  | .b => .inc_b
  | .c => .inc_c
  | .d => .inc_d
  | .e => .inc_e
  | .h => .inc_h
  | .l => .inc_l
  | .a => .inc_a

/-- DEC r (R276). -/
def Instr.decReg : Reg8 → Instr
  | .b => .dec_b
  | .c => .dec_c
  | .d => .dec_d
  | .e => .dec_e
  | .h => .dec_h
  | .l => .dec_l
  | .a => .dec_a

/-- INC rr (R302). -/
def Instr.incPair : Pair16 → Instr
  | .bc => .inc_bc
  | .de => .inc_de
  | .hl => .inc_hl
  | .sp => .inc_sp

/-- DEC rr (R303). -/
def Instr.decPair : Pair16 → Instr
  | .bc => .dec_bc
  | .de => .dec_de
  | .hl => .dec_hl
  | .sp => .dec_sp

/-- ADD HL,rr (R304). -/
def Instr.addHLPair : Pair16 → Instr
  | .bc => .add_hl_bc
  | .de => .add_hl_de
  | .hl => .add_hl_hl
  | .sp => .add_hl_sp

/-- The prefixed rotates, shifts and SWAP of a register (R334 to R348). -/
def Instr.rotReg : RotOp → Reg8 → Instr
  | .rlc, .b => .rlc_b
  | .rlc, .c => .rlc_c
  | .rlc, .d => .rlc_d
  | .rlc, .e => .rlc_e
  | .rlc, .h => .rlc_h
  | .rlc, .l => .rlc_l
  | .rlc, .a => .rlc_a
  | .rrc, .b => .rrc_b
  | .rrc, .c => .rrc_c
  | .rrc, .d => .rrc_d
  | .rrc, .e => .rrc_e
  | .rrc, .h => .rrc_h
  | .rrc, .l => .rrc_l
  | .rrc, .a => .rrc_a
  | .rl, .b => .rl_b
  | .rl, .c => .rl_c
  | .rl, .d => .rl_d
  | .rl, .e => .rl_e
  | .rl, .h => .rl_h
  | .rl, .l => .rl_l
  | .rl, .a => .rl_a
  | .rr, .b => .rr_b
  | .rr, .c => .rr_c
  | .rr, .d => .rr_d
  | .rr, .e => .rr_e
  | .rr, .h => .rr_h
  | .rr, .l => .rr_l
  | .rr, .a => .rr_a
  | .sla, .b => .sla_b
  | .sla, .c => .sla_c
  | .sla, .d => .sla_d
  | .sla, .e => .sla_e
  | .sla, .h => .sla_h
  | .sla, .l => .sla_l
  | .sla, .a => .sla_a
  | .sra, .b => .sra_b
  | .sra, .c => .sra_c
  | .sra, .d => .sra_d
  | .sra, .e => .sra_e
  | .sra, .h => .sra_h
  | .sra, .l => .sra_l
  | .sra, .a => .sra_a
  | .swap, .b => .swap_b
  | .swap, .c => .swap_c
  | .swap, .d => .swap_d
  | .swap, .e => .swap_e
  | .swap, .h => .swap_h
  | .swap, .l => .swap_l
  | .swap, .a => .swap_a
  | .srl, .b => .srl_b
  | .srl, .c => .srl_c
  | .srl, .d => .srl_d
  | .srl, .e => .srl_e
  | .srl, .h => .srl_h
  | .srl, .l => .srl_l
  | .srl, .a => .srl_a

/-- The prefixed rotates, shifts and SWAP of (HL) (R335 to R349). -/
def Instr.rotAtHL : RotOp → Instr
  | .rlc => .rlc_atHL
  | .rrc => .rrc_atHL
  | .rl => .rl_atHL
  | .rr => .rr_atHL
  | .sla => .sla_atHL
  | .sra => .sra_atHL
  | .swap => .swap_atHL
  | .srl => .srl_atHL

/-- BIT b,r (R350). -/
def Instr.bitReg (b : BitVec 3) (r : Reg8) : Instr :=
  match b.toNat, r with
  | 0, .b => .bit_0_b
  | 0, .c => .bit_0_c
  | 0, .d => .bit_0_d
  | 0, .e => .bit_0_e
  | 0, .h => .bit_0_h
  | 0, .l => .bit_0_l
  | 0, .a => .bit_0_a
  | 1, .b => .bit_1_b
  | 1, .c => .bit_1_c
  | 1, .d => .bit_1_d
  | 1, .e => .bit_1_e
  | 1, .h => .bit_1_h
  | 1, .l => .bit_1_l
  | 1, .a => .bit_1_a
  | 2, .b => .bit_2_b
  | 2, .c => .bit_2_c
  | 2, .d => .bit_2_d
  | 2, .e => .bit_2_e
  | 2, .h => .bit_2_h
  | 2, .l => .bit_2_l
  | 2, .a => .bit_2_a
  | 3, .b => .bit_3_b
  | 3, .c => .bit_3_c
  | 3, .d => .bit_3_d
  | 3, .e => .bit_3_e
  | 3, .h => .bit_3_h
  | 3, .l => .bit_3_l
  | 3, .a => .bit_3_a
  | 4, .b => .bit_4_b
  | 4, .c => .bit_4_c
  | 4, .d => .bit_4_d
  | 4, .e => .bit_4_e
  | 4, .h => .bit_4_h
  | 4, .l => .bit_4_l
  | 4, .a => .bit_4_a
  | 5, .b => .bit_5_b
  | 5, .c => .bit_5_c
  | 5, .d => .bit_5_d
  | 5, .e => .bit_5_e
  | 5, .h => .bit_5_h
  | 5, .l => .bit_5_l
  | 5, .a => .bit_5_a
  | 6, .b => .bit_6_b
  | 6, .c => .bit_6_c
  | 6, .d => .bit_6_d
  | 6, .e => .bit_6_e
  | 6, .h => .bit_6_h
  | 6, .l => .bit_6_l
  | 6, .a => .bit_6_a
  | _, .b => .bit_7_b
  | _, .c => .bit_7_c
  | _, .d => .bit_7_d
  | _, .e => .bit_7_e
  | _, .h => .bit_7_h
  | _, .l => .bit_7_l
  | _, .a => .bit_7_a

/-- BIT b,(HL) (R351). -/
def Instr.bitAtHL (b : BitVec 3) : Instr :=
  match b.toNat with
  | 0 => .bit_0_atHL
  | 1 => .bit_1_atHL
  | 2 => .bit_2_atHL
  | 3 => .bit_3_atHL
  | 4 => .bit_4_atHL
  | 5 => .bit_5_atHL
  | 6 => .bit_6_atHL
  | _ => .bit_7_atHL

/-- RES b,r (R352). -/
def Instr.resReg (b : BitVec 3) (r : Reg8) : Instr :=
  match b.toNat, r with
  | 0, .b => .res_0_b
  | 0, .c => .res_0_c
  | 0, .d => .res_0_d
  | 0, .e => .res_0_e
  | 0, .h => .res_0_h
  | 0, .l => .res_0_l
  | 0, .a => .res_0_a
  | 1, .b => .res_1_b
  | 1, .c => .res_1_c
  | 1, .d => .res_1_d
  | 1, .e => .res_1_e
  | 1, .h => .res_1_h
  | 1, .l => .res_1_l
  | 1, .a => .res_1_a
  | 2, .b => .res_2_b
  | 2, .c => .res_2_c
  | 2, .d => .res_2_d
  | 2, .e => .res_2_e
  | 2, .h => .res_2_h
  | 2, .l => .res_2_l
  | 2, .a => .res_2_a
  | 3, .b => .res_3_b
  | 3, .c => .res_3_c
  | 3, .d => .res_3_d
  | 3, .e => .res_3_e
  | 3, .h => .res_3_h
  | 3, .l => .res_3_l
  | 3, .a => .res_3_a
  | 4, .b => .res_4_b
  | 4, .c => .res_4_c
  | 4, .d => .res_4_d
  | 4, .e => .res_4_e
  | 4, .h => .res_4_h
  | 4, .l => .res_4_l
  | 4, .a => .res_4_a
  | 5, .b => .res_5_b
  | 5, .c => .res_5_c
  | 5, .d => .res_5_d
  | 5, .e => .res_5_e
  | 5, .h => .res_5_h
  | 5, .l => .res_5_l
  | 5, .a => .res_5_a
  | 6, .b => .res_6_b
  | 6, .c => .res_6_c
  | 6, .d => .res_6_d
  | 6, .e => .res_6_e
  | 6, .h => .res_6_h
  | 6, .l => .res_6_l
  | 6, .a => .res_6_a
  | _, .b => .res_7_b
  | _, .c => .res_7_c
  | _, .d => .res_7_d
  | _, .e => .res_7_e
  | _, .h => .res_7_h
  | _, .l => .res_7_l
  | _, .a => .res_7_a

/-- RES b,(HL) (R353). -/
def Instr.resAtHL (b : BitVec 3) : Instr :=
  match b.toNat with
  | 0 => .res_0_atHL
  | 1 => .res_1_atHL
  | 2 => .res_2_atHL
  | 3 => .res_3_atHL
  | 4 => .res_4_atHL
  | 5 => .res_5_atHL
  | 6 => .res_6_atHL
  | _ => .res_7_atHL

/-- SET b,r (R354). -/
def Instr.setReg (b : BitVec 3) (r : Reg8) : Instr :=
  match b.toNat, r with
  | 0, .b => .set_0_b
  | 0, .c => .set_0_c
  | 0, .d => .set_0_d
  | 0, .e => .set_0_e
  | 0, .h => .set_0_h
  | 0, .l => .set_0_l
  | 0, .a => .set_0_a
  | 1, .b => .set_1_b
  | 1, .c => .set_1_c
  | 1, .d => .set_1_d
  | 1, .e => .set_1_e
  | 1, .h => .set_1_h
  | 1, .l => .set_1_l
  | 1, .a => .set_1_a
  | 2, .b => .set_2_b
  | 2, .c => .set_2_c
  | 2, .d => .set_2_d
  | 2, .e => .set_2_e
  | 2, .h => .set_2_h
  | 2, .l => .set_2_l
  | 2, .a => .set_2_a
  | 3, .b => .set_3_b
  | 3, .c => .set_3_c
  | 3, .d => .set_3_d
  | 3, .e => .set_3_e
  | 3, .h => .set_3_h
  | 3, .l => .set_3_l
  | 3, .a => .set_3_a
  | 4, .b => .set_4_b
  | 4, .c => .set_4_c
  | 4, .d => .set_4_d
  | 4, .e => .set_4_e
  | 4, .h => .set_4_h
  | 4, .l => .set_4_l
  | 4, .a => .set_4_a
  | 5, .b => .set_5_b
  | 5, .c => .set_5_c
  | 5, .d => .set_5_d
  | 5, .e => .set_5_e
  | 5, .h => .set_5_h
  | 5, .l => .set_5_l
  | 5, .a => .set_5_a
  | 6, .b => .set_6_b
  | 6, .c => .set_6_c
  | 6, .d => .set_6_d
  | 6, .e => .set_6_e
  | 6, .h => .set_6_h
  | 6, .l => .set_6_l
  | 6, .a => .set_6_a
  | _, .b => .set_7_b
  | _, .c => .set_7_c
  | _, .d => .set_7_d
  | _, .e => .set_7_e
  | _, .h => .set_7_h
  | _, .l => .set_7_l
  | _, .a => .set_7_a

/-- SET b,(HL) (R355). -/
def Instr.setAtHL (b : BitVec 3) : Instr :=
  match b.toNat with
  | 0 => .set_0_atHL
  | 1 => .set_1_atHL
  | 2 => .set_2_atHL
  | 3 => .set_3_atHL
  | 4 => .set_4_atHL
  | 5 => .set_5_atHL
  | 6 => .set_6_atHL
  | _ => .set_7_atHL

/-- JP cc,n16 (R371). -/
def Instr.jpCond : Cond → Word → Instr
  | .nz, nn => .jp_nz_n16 nn
  | .z, nn => .jp_z_n16 nn
  | .nc, nn => .jp_nc_n16 nn
  | .c, nn => .jp_c_n16 nn

/-- JR cc,e8 (R374). -/
def Instr.jrCond : Cond → Byte → Instr
  | .nz, e => .jr_nz_e8 e
  | .z, e => .jr_z_e8 e
  | .nc, e => .jr_nc_e8 e
  | .c, e => .jr_c_e8 e

/-- CALL cc,n16 (R376). -/
def Instr.callCond : Cond → Word → Instr
  | .nz, nn => .call_nz_n16 nn
  | .z, nn => .call_z_n16 nn
  | .nc, nn => .call_nc_n16 nn
  | .c, nn => .call_c_n16 nn

/-- RET cc (R378). -/
def Instr.retCond : Cond → Instr
  | .nz => .ret_nz
  | .z => .ret_z
  | .nc => .ret_nc
  | .c => .ret_c

/-- RST t, with t = 8 y (R127, R380). -/
def Instr.rst (y : BitVec 3) : Instr :=
  match y.toNat with
  | 0 => .rst_00
  | 1 => .rst_08
  | 2 => .rst_10
  | 3 => .rst_18
  | 4 => .rst_20
  | 5 => .rst_28
  | 6 => .rst_30
  | _ => .rst_38

/-- The eleven bytes that are not instructions, each with its row (R132, R405). -/
def illegalRows : List (Byte × Instr) :=
  [(0xD3, .illegal_d3), (0xDB, .illegal_db), (0xDD, .illegal_dd), (0xE3, .illegal_e3),
   (0xE4, .illegal_e4), (0xEB, .illegal_eb), (0xEC, .illegal_ec), (0xED, .illegal_ed),
   (0xF4, .illegal_f4), (0xFC, .illegal_fc), (0xFD, .illegal_fd)]

end Sys2Proof
end

