-- ==== Sys2Proof/WellFormed.lean ====
section
/-! DEFINITION. Well-formedness. Every value of `Instr` is well-formed: a register operand has a
type of seven values (R134), an immediate the width of its field (R128), and there is one constructor
for each row of the table, so that no check is left to make on a term. What can be ill-formed is a
byte string: it is one instruction when its length is the one its first byte fixes (R120). -/

namespace Sys2Proof

/-- The first bytes of the 3-byte instructions (R120, R121, R141). -/
def firstBytesOf3 : List Byte :=
  [0x01, 0x08, 0x11, 0x21, 0x31, 0xC2, 0xC3, 0xC4, 0xCA, 0xCC, 0xCD, 0xD2,
   0xD4, 0xDA, 0xDC, 0xEA, 0xFA]

/-- The first bytes of the 2-byte instructions, the prefix among them (R120, R121, R141). -/
def firstBytesOf2 : List Byte :=
  [0x06, 0x0E, 0x10, 0x16, 0x18, 0x1E, 0x20, 0x26, 0x28, 0x2E, 0x30, 0x36,
   0x38, 0x3E, 0xC6, 0xCB, 0xCE, 0xD6, 0xDE, 0xE0, 0xE6, 0xE8, 0xEE, 0xF0,
   0xF6, 0xF8, 0xFE]

/-- The length in bytes of the instruction that starts with this byte (R120). -/
def lengthOf (b0 : Byte) : Nat :=
  if b0 ∈ firstBytesOf3 then 3 else if b0 ∈ firstBytesOf2 then 2 else 1

/-- The byte string is exactly one instruction: it is not empty, and it has the length its first byte
fixes (R120). -/
def wellFormedBytes : List Byte → Bool
  | [] => false
  | b0 :: rest => rest.length + 1 == lengthOf b0

/-- An instruction term is well-formed; the type leaves nothing to check (R134). -/
def Instr.wellFormed (_ : Instr) : Bool := true

end Sys2Proof
end

