-- ==== Sys2Proof/Decode.lean ====
section
/-! DEFINITION. The decoder, a total function on byte strings that rejects by name, and the encoder,
both written from the opcode maps of 30_encoding.md (R130, R131) and its formats (R121). -/

namespace Sys2Proof

/-- The 16-bit immediate whose low byte comes first in the stream (R128). -/
def immWord (lo hi : Byte) : Word := hi ++ lo

/-- The low byte of a 16-bit immediate, at PC+1 (R121, R128). -/
def immLo (nn : Word) : Byte := nn.extractLsb' 0 8

/-- The high byte of a 16-bit immediate, at PC+2 (R121, R128). -/
def immHi (nn : Word) : Byte := nn.extractLsb' 8 8

/-- Row 0x0_ of the prefixed opcode map (R131). -/
def decodePrefixedRow0 (lo : Nat) : Instr :=
  match lo with
  | 0 => .rlc_b
  | 1 => .rlc_c
  | 2 => .rlc_d
  | 3 => .rlc_e
  | 4 => .rlc_h
  | 5 => .rlc_l
  | 6 => .rlc_atHL
  | 7 => .rlc_a
  | 8 => .rrc_b
  | 9 => .rrc_c
  | 10 => .rrc_d
  | 11 => .rrc_e
  | 12 => .rrc_h
  | 13 => .rrc_l
  | 14 => .rrc_atHL
  | _ => .rrc_a

/-- Row 0x1_ of the prefixed opcode map (R131). -/
def decodePrefixedRow1 (lo : Nat) : Instr :=
  match lo with
  | 0 => .rl_b
  | 1 => .rl_c
  | 2 => .rl_d
  | 3 => .rl_e
  | 4 => .rl_h
  | 5 => .rl_l
  | 6 => .rl_atHL
  | 7 => .rl_a
  | 8 => .rr_b
  | 9 => .rr_c
  | 10 => .rr_d
  | 11 => .rr_e
  | 12 => .rr_h
  | 13 => .rr_l
  | 14 => .rr_atHL
  | _ => .rr_a

/-- Row 0x2_ of the prefixed opcode map (R131). -/
def decodePrefixedRow2 (lo : Nat) : Instr :=
  match lo with
  | 0 => .sla_b
  | 1 => .sla_c
  | 2 => .sla_d
  | 3 => .sla_e
  | 4 => .sla_h
  | 5 => .sla_l
  | 6 => .sla_atHL
  | 7 => .sla_a
  | 8 => .sra_b
  | 9 => .sra_c
  | 10 => .sra_d
  | 11 => .sra_e
  | 12 => .sra_h
  | 13 => .sra_l
  | 14 => .sra_atHL
  | _ => .sra_a

/-- Row 0x3_ of the prefixed opcode map (R131). -/
def decodePrefixedRow3 (lo : Nat) : Instr :=
  match lo with
  | 0 => .swap_b
  | 1 => .swap_c
  | 2 => .swap_d
  | 3 => .swap_e
  | 4 => .swap_h
  | 5 => .swap_l
  | 6 => .swap_atHL
  | 7 => .swap_a
  | 8 => .srl_b
  | 9 => .srl_c
  | 10 => .srl_d
  | 11 => .srl_e
  | 12 => .srl_h
  | 13 => .srl_l
  | 14 => .srl_atHL
  | _ => .srl_a

/-- Row 0x4_ of the prefixed opcode map (R131). -/
def decodePrefixedRow4 (lo : Nat) : Instr :=
  match lo with
  | 0 => .bit_0_b
  | 1 => .bit_0_c
  | 2 => .bit_0_d
  | 3 => .bit_0_e
  | 4 => .bit_0_h
  | 5 => .bit_0_l
  | 6 => .bit_0_atHL
  | 7 => .bit_0_a
  | 8 => .bit_1_b
  | 9 => .bit_1_c
  | 10 => .bit_1_d
  | 11 => .bit_1_e
  | 12 => .bit_1_h
  | 13 => .bit_1_l
  | 14 => .bit_1_atHL
  | _ => .bit_1_a

/-- Row 0x5_ of the prefixed opcode map (R131). -/
def decodePrefixedRow5 (lo : Nat) : Instr :=
  match lo with
  | 0 => .bit_2_b
  | 1 => .bit_2_c
  | 2 => .bit_2_d
  | 3 => .bit_2_e
  | 4 => .bit_2_h
  | 5 => .bit_2_l
  | 6 => .bit_2_atHL
  | 7 => .bit_2_a
  | 8 => .bit_3_b
  | 9 => .bit_3_c
  | 10 => .bit_3_d
  | 11 => .bit_3_e
  | 12 => .bit_3_h
  | 13 => .bit_3_l
  | 14 => .bit_3_atHL
  | _ => .bit_3_a

/-- Row 0x6_ of the prefixed opcode map (R131). -/
def decodePrefixedRow6 (lo : Nat) : Instr :=
  match lo with
  | 0 => .bit_4_b
  | 1 => .bit_4_c
  | 2 => .bit_4_d
  | 3 => .bit_4_e
  | 4 => .bit_4_h
  | 5 => .bit_4_l
  | 6 => .bit_4_atHL
  | 7 => .bit_4_a
  | 8 => .bit_5_b
  | 9 => .bit_5_c
  | 10 => .bit_5_d
  | 11 => .bit_5_e
  | 12 => .bit_5_h
  | 13 => .bit_5_l
  | 14 => .bit_5_atHL
  | _ => .bit_5_a

/-- Row 0x7_ of the prefixed opcode map (R131). -/
def decodePrefixedRow7 (lo : Nat) : Instr :=
  match lo with
  | 0 => .bit_6_b
  | 1 => .bit_6_c
  | 2 => .bit_6_d
  | 3 => .bit_6_e
  | 4 => .bit_6_h
  | 5 => .bit_6_l
  | 6 => .bit_6_atHL
  | 7 => .bit_6_a
  | 8 => .bit_7_b
  | 9 => .bit_7_c
  | 10 => .bit_7_d
  | 11 => .bit_7_e
  | 12 => .bit_7_h
  | 13 => .bit_7_l
  | 14 => .bit_7_atHL
  | _ => .bit_7_a

/-- Row 0x8_ of the prefixed opcode map (R131). -/
def decodePrefixedRow8 (lo : Nat) : Instr :=
  match lo with
  | 0 => .res_0_b
  | 1 => .res_0_c
  | 2 => .res_0_d
  | 3 => .res_0_e
  | 4 => .res_0_h
  | 5 => .res_0_l
  | 6 => .res_0_atHL
  | 7 => .res_0_a
  | 8 => .res_1_b
  | 9 => .res_1_c
  | 10 => .res_1_d
  | 11 => .res_1_e
  | 12 => .res_1_h
  | 13 => .res_1_l
  | 14 => .res_1_atHL
  | _ => .res_1_a

/-- Row 0x9_ of the prefixed opcode map (R131). -/
def decodePrefixedRow9 (lo : Nat) : Instr :=
  match lo with
  | 0 => .res_2_b
  | 1 => .res_2_c
  | 2 => .res_2_d
  | 3 => .res_2_e
  | 4 => .res_2_h
  | 5 => .res_2_l
  | 6 => .res_2_atHL
  | 7 => .res_2_a
  | 8 => .res_3_b
  | 9 => .res_3_c
  | 10 => .res_3_d
  | 11 => .res_3_e
  | 12 => .res_3_h
  | 13 => .res_3_l
  | 14 => .res_3_atHL
  | _ => .res_3_a

/-- Row 0xA_ of the prefixed opcode map (R131). -/
def decodePrefixedRowA (lo : Nat) : Instr :=
  match lo with
  | 0 => .res_4_b
  | 1 => .res_4_c
  | 2 => .res_4_d
  | 3 => .res_4_e
  | 4 => .res_4_h
  | 5 => .res_4_l
  | 6 => .res_4_atHL
  | 7 => .res_4_a
  | 8 => .res_5_b
  | 9 => .res_5_c
  | 10 => .res_5_d
  | 11 => .res_5_e
  | 12 => .res_5_h
  | 13 => .res_5_l
  | 14 => .res_5_atHL
  | _ => .res_5_a

/-- Row 0xB_ of the prefixed opcode map (R131). -/
def decodePrefixedRowB (lo : Nat) : Instr :=
  match lo with
  | 0 => .res_6_b
  | 1 => .res_6_c
  | 2 => .res_6_d
  | 3 => .res_6_e
  | 4 => .res_6_h
  | 5 => .res_6_l
  | 6 => .res_6_atHL
  | 7 => .res_6_a
  | 8 => .res_7_b
  | 9 => .res_7_c
  | 10 => .res_7_d
  | 11 => .res_7_e
  | 12 => .res_7_h
  | 13 => .res_7_l
  | 14 => .res_7_atHL
  | _ => .res_7_a

/-- Row 0xC_ of the prefixed opcode map (R131). -/
def decodePrefixedRowC (lo : Nat) : Instr :=
  match lo with
  | 0 => .set_0_b
  | 1 => .set_0_c
  | 2 => .set_0_d
  | 3 => .set_0_e
  | 4 => .set_0_h
  | 5 => .set_0_l
  | 6 => .set_0_atHL
  | 7 => .set_0_a
  | 8 => .set_1_b
  | 9 => .set_1_c
  | 10 => .set_1_d
  | 11 => .set_1_e
  | 12 => .set_1_h
  | 13 => .set_1_l
  | 14 => .set_1_atHL
  | _ => .set_1_a

/-- Row 0xD_ of the prefixed opcode map (R131). -/
def decodePrefixedRowD (lo : Nat) : Instr :=
  match lo with
  | 0 => .set_2_b
  | 1 => .set_2_c
  | 2 => .set_2_d
  | 3 => .set_2_e
  | 4 => .set_2_h
  | 5 => .set_2_l
  | 6 => .set_2_atHL
  | 7 => .set_2_a
  | 8 => .set_3_b
  | 9 => .set_3_c
  | 10 => .set_3_d
  | 11 => .set_3_e
  | 12 => .set_3_h
  | 13 => .set_3_l
  | 14 => .set_3_atHL
  | _ => .set_3_a

/-- Row 0xE_ of the prefixed opcode map (R131). -/
def decodePrefixedRowE (lo : Nat) : Instr :=
  match lo with
  | 0 => .set_4_b
  | 1 => .set_4_c
  | 2 => .set_4_d
  | 3 => .set_4_e
  | 4 => .set_4_h
  | 5 => .set_4_l
  | 6 => .set_4_atHL
  | 7 => .set_4_a
  | 8 => .set_5_b
  | 9 => .set_5_c
  | 10 => .set_5_d
  | 11 => .set_5_e
  | 12 => .set_5_h
  | 13 => .set_5_l
  | 14 => .set_5_atHL
  | _ => .set_5_a

/-- Row 0xF_ of the prefixed opcode map (R131). -/
def decodePrefixedRowF (lo : Nat) : Instr :=
  match lo with
  | 0 => .set_6_b
  | 1 => .set_6_c
  | 2 => .set_6_d
  | 3 => .set_6_e
  | 4 => .set_6_h
  | 5 => .set_6_l
  | 6 => .set_6_atHL
  | 7 => .set_6_a
  | 8 => .set_7_b
  | 9 => .set_7_c
  | 10 => .set_7_d
  | 11 => .set_7_e
  | 12 => .set_7_h
  | 13 => .set_7_l
  | 14 => .set_7_atHL
  | _ => .set_7_a

/-- The prefixed page, indexed by the byte after 0xCB (R129, R131). -/
def decodePrefixed (o : Byte) : Instr :=
  match o.toNat / 16 with
  | 0 => decodePrefixedRow0 (o.toNat % 16)
  | 1 => decodePrefixedRow1 (o.toNat % 16)
  | 2 => decodePrefixedRow2 (o.toNat % 16)
  | 3 => decodePrefixedRow3 (o.toNat % 16)
  | 4 => decodePrefixedRow4 (o.toNat % 16)
  | 5 => decodePrefixedRow5 (o.toNat % 16)
  | 6 => decodePrefixedRow6 (o.toNat % 16)
  | 7 => decodePrefixedRow7 (o.toNat % 16)
  | 8 => decodePrefixedRow8 (o.toNat % 16)
  | 9 => decodePrefixedRow9 (o.toNat % 16)
  | 10 => decodePrefixedRowA (o.toNat % 16)
  | 11 => decodePrefixedRowB (o.toNat % 16)
  | 12 => decodePrefixedRowC (o.toNat % 16)
  | 13 => decodePrefixedRowD (o.toNat % 16)
  | 14 => decodePrefixedRowE (o.toNat % 16)
  | _ => decodePrefixedRowF (o.toNat % 16)

/-- Row 0x0_ of the unprefixed opcode map (R130); `b1` and `b2` are the bytes after the opcode. -/
def decodeRow0 (lo : Nat) (b1 b2 : Byte) : Instr :=
  match lo with
  | 0 => .nop
  | 1 => .ld_bc_n16 (immWord b1 b2)
  | 2 => .ld_atBC_a
  | 3 => .inc_bc
  | 4 => .inc_b
  | 5 => .dec_b
  | 6 => .ld_b_n8 b1
  | 7 => .rlca
  | 8 => .ld_atN16_sp (immWord b1 b2)
  | 9 => .add_hl_bc
  | 10 => .ld_a_atBC
  | 11 => .dec_bc
  | 12 => .inc_c
  | 13 => .dec_c
  | 14 => .ld_c_n8 b1
  | _ => .rrca

/-- Row 0x1_ of the unprefixed opcode map (R130); `b1` and `b2` are the bytes after the opcode. -/
def decodeRow1 (lo : Nat) (b1 b2 : Byte) : Instr :=
  match lo with
  | 0 => .stop b1
  | 1 => .ld_de_n16 (immWord b1 b2)
  | 2 => .ld_atDE_a
  | 3 => .inc_de
  | 4 => .inc_d
  | 5 => .dec_d
  | 6 => .ld_d_n8 b1
  | 7 => .rla
  | 8 => .jr_e8 b1
  | 9 => .add_hl_de
  | 10 => .ld_a_atDE
  | 11 => .dec_de
  | 12 => .inc_e
  | 13 => .dec_e
  | 14 => .ld_e_n8 b1
  | _ => .rra

/-- Row 0x2_ of the unprefixed opcode map (R130); `b1` and `b2` are the bytes after the opcode. -/
def decodeRow2 (lo : Nat) (b1 b2 : Byte) : Instr :=
  match lo with
  | 0 => .jr_nz_e8 b1
  | 1 => .ld_hl_n16 (immWord b1 b2)
  | 2 => .ld_atHLinc_a
  | 3 => .inc_hl
  | 4 => .inc_h
  | 5 => .dec_h
  | 6 => .ld_h_n8 b1
  | 7 => .daa
  | 8 => .jr_z_e8 b1
  | 9 => .add_hl_hl
  | 10 => .ld_a_atHLinc
  | 11 => .dec_hl
  | 12 => .inc_l
  | 13 => .dec_l
  | 14 => .ld_l_n8 b1
  | _ => .cpl

/-- Row 0x3_ of the unprefixed opcode map (R130); `b1` and `b2` are the bytes after the opcode. -/
def decodeRow3 (lo : Nat) (b1 b2 : Byte) : Instr :=
  match lo with
  | 0 => .jr_nc_e8 b1
  | 1 => .ld_sp_n16 (immWord b1 b2)
  | 2 => .ld_atHLdec_a
  | 3 => .inc_sp
  | 4 => .inc_atHL
  | 5 => .dec_atHL
  | 6 => .ld_atHL_n8 b1
  | 7 => .scf
  | 8 => .jr_c_e8 b1
  | 9 => .add_hl_sp
  | 10 => .ld_a_atHLdec
  | 11 => .dec_sp
  | 12 => .inc_a
  | 13 => .dec_a
  | 14 => .ld_a_n8 b1
  | _ => .ccf

/-- Row 0x4_ of the unprefixed opcode map (R130); `b1` and `b2` are the bytes after the opcode. -/
def decodeRow4 (lo : Nat) (_b1 _b2 : Byte) : Instr :=
  match lo with
  | 0 => .ld_b_b
  | 1 => .ld_b_c
  | 2 => .ld_b_d
  | 3 => .ld_b_e
  | 4 => .ld_b_h
  | 5 => .ld_b_l
  | 6 => .ld_b_atHL
  | 7 => .ld_b_a
  | 8 => .ld_c_b
  | 9 => .ld_c_c
  | 10 => .ld_c_d
  | 11 => .ld_c_e
  | 12 => .ld_c_h
  | 13 => .ld_c_l
  | 14 => .ld_c_atHL
  | _ => .ld_c_a

/-- Row 0x5_ of the unprefixed opcode map (R130); `b1` and `b2` are the bytes after the opcode. -/
def decodeRow5 (lo : Nat) (_b1 _b2 : Byte) : Instr :=
  match lo with
  | 0 => .ld_d_b
  | 1 => .ld_d_c
  | 2 => .ld_d_d
  | 3 => .ld_d_e
  | 4 => .ld_d_h
  | 5 => .ld_d_l
  | 6 => .ld_d_atHL
  | 7 => .ld_d_a
  | 8 => .ld_e_b
  | 9 => .ld_e_c
  | 10 => .ld_e_d
  | 11 => .ld_e_e
  | 12 => .ld_e_h
  | 13 => .ld_e_l
  | 14 => .ld_e_atHL
  | _ => .ld_e_a

/-- Row 0x6_ of the unprefixed opcode map (R130); `b1` and `b2` are the bytes after the opcode. -/
def decodeRow6 (lo : Nat) (_b1 _b2 : Byte) : Instr :=
  match lo with
  | 0 => .ld_h_b
  | 1 => .ld_h_c
  | 2 => .ld_h_d
  | 3 => .ld_h_e
  | 4 => .ld_h_h
  | 5 => .ld_h_l
  | 6 => .ld_h_atHL
  | 7 => .ld_h_a
  | 8 => .ld_l_b
  | 9 => .ld_l_c
  | 10 => .ld_l_d
  | 11 => .ld_l_e
  | 12 => .ld_l_h
  | 13 => .ld_l_l
  | 14 => .ld_l_atHL
  | _ => .ld_l_a

/-- Row 0x7_ of the unprefixed opcode map (R130); `b1` and `b2` are the bytes after the opcode. -/
def decodeRow7 (lo : Nat) (_b1 _b2 : Byte) : Instr :=
  match lo with
  | 0 => .ld_atHL_b
  | 1 => .ld_atHL_c
  | 2 => .ld_atHL_d
  | 3 => .ld_atHL_e
  | 4 => .ld_atHL_h
  | 5 => .ld_atHL_l
  | 6 => .halt
  | 7 => .ld_atHL_a
  | 8 => .ld_a_b
  | 9 => .ld_a_c
  | 10 => .ld_a_d
  | 11 => .ld_a_e
  | 12 => .ld_a_h
  | 13 => .ld_a_l
  | 14 => .ld_a_atHL
  | _ => .ld_a_a

/-- Row 0x8_ of the unprefixed opcode map (R130); `b1` and `b2` are the bytes after the opcode. -/
def decodeRow8 (lo : Nat) (_b1 _b2 : Byte) : Instr :=
  match lo with
  | 0 => .add_a_b
  | 1 => .add_a_c
  | 2 => .add_a_d
  | 3 => .add_a_e
  | 4 => .add_a_h
  | 5 => .add_a_l
  | 6 => .add_a_atHL
  | 7 => .add_a_a
  | 8 => .adc_a_b
  | 9 => .adc_a_c
  | 10 => .adc_a_d
  | 11 => .adc_a_e
  | 12 => .adc_a_h
  | 13 => .adc_a_l
  | 14 => .adc_a_atHL
  | _ => .adc_a_a

/-- Row 0x9_ of the unprefixed opcode map (R130); `b1` and `b2` are the bytes after the opcode. -/
def decodeRow9 (lo : Nat) (_b1 _b2 : Byte) : Instr :=
  match lo with
  | 0 => .sub_a_b
  | 1 => .sub_a_c
  | 2 => .sub_a_d
  | 3 => .sub_a_e
  | 4 => .sub_a_h
  | 5 => .sub_a_l
  | 6 => .sub_a_atHL
  | 7 => .sub_a_a
  | 8 => .sbc_a_b
  | 9 => .sbc_a_c
  | 10 => .sbc_a_d
  | 11 => .sbc_a_e
  | 12 => .sbc_a_h
  | 13 => .sbc_a_l
  | 14 => .sbc_a_atHL
  | _ => .sbc_a_a

/-- Row 0xA_ of the unprefixed opcode map (R130); `b1` and `b2` are the bytes after the opcode. -/
def decodeRowA (lo : Nat) (_b1 _b2 : Byte) : Instr :=
  match lo with
  | 0 => .and_a_b
  | 1 => .and_a_c
  | 2 => .and_a_d
  | 3 => .and_a_e
  | 4 => .and_a_h
  | 5 => .and_a_l
  | 6 => .and_a_atHL
  | 7 => .and_a_a
  | 8 => .xor_a_b
  | 9 => .xor_a_c
  | 10 => .xor_a_d
  | 11 => .xor_a_e
  | 12 => .xor_a_h
  | 13 => .xor_a_l
  | 14 => .xor_a_atHL
  | _ => .xor_a_a

/-- Row 0xB_ of the unprefixed opcode map (R130); `b1` and `b2` are the bytes after the opcode. -/
def decodeRowB (lo : Nat) (_b1 _b2 : Byte) : Instr :=
  match lo with
  | 0 => .or_a_b
  | 1 => .or_a_c
  | 2 => .or_a_d
  | 3 => .or_a_e
  | 4 => .or_a_h
  | 5 => .or_a_l
  | 6 => .or_a_atHL
  | 7 => .or_a_a
  | 8 => .cp_a_b
  | 9 => .cp_a_c
  | 10 => .cp_a_d
  | 11 => .cp_a_e
  | 12 => .cp_a_h
  | 13 => .cp_a_l
  | 14 => .cp_a_atHL
  | _ => .cp_a_a

/-- Row 0xC_ of the unprefixed opcode map (R130); `b1` and `b2` are the bytes after the opcode. -/
def decodeRowC (lo : Nat) (b1 b2 : Byte) : Instr :=
  match lo with
  | 0 => .ret_nz
  | 1 => .pop_bc
  | 2 => .jp_nz_n16 (immWord b1 b2)
  | 3 => .jp_n16 (immWord b1 b2)
  | 4 => .call_nz_n16 (immWord b1 b2)
  | 5 => .push_bc
  | 6 => .add_a_n8 b1
  | 7 => .rst_00
  | 8 => .ret_z
  | 9 => .ret
  | 10 => .jp_z_n16 (immWord b1 b2)
  | 11 => decodePrefixed b1
  | 12 => .call_z_n16 (immWord b1 b2)
  | 13 => .call_n16 (immWord b1 b2)
  | 14 => .adc_a_n8 b1
  | _ => .rst_08

/-- Row 0xD_ of the unprefixed opcode map (R130); `b1` and `b2` are the bytes after the opcode. -/
def decodeRowD (lo : Nat) (b1 b2 : Byte) : Instr :=
  match lo with
  | 0 => .ret_nc
  | 1 => .pop_de
  | 2 => .jp_nc_n16 (immWord b1 b2)
  | 3 => .illegal_d3
  | 4 => .call_nc_n16 (immWord b1 b2)
  | 5 => .push_de
  | 6 => .sub_a_n8 b1
  | 7 => .rst_10
  | 8 => .ret_c
  | 9 => .reti
  | 10 => .jp_c_n16 (immWord b1 b2)
  | 11 => .illegal_db
  | 12 => .call_c_n16 (immWord b1 b2)
  | 13 => .illegal_dd
  | 14 => .sbc_a_n8 b1
  | _ => .rst_18

/-- Row 0xE_ of the unprefixed opcode map (R130); `b1` and `b2` are the bytes after the opcode. -/
def decodeRowE (lo : Nat) (b1 b2 : Byte) : Instr :=
  match lo with
  | 0 => .ldh_atN8_a b1
  | 1 => .pop_hl
  | 2 => .ld_atC_a
  | 3 => .illegal_e3
  | 4 => .illegal_e4
  | 5 => .push_hl
  | 6 => .and_a_n8 b1
  | 7 => .rst_20
  | 8 => .add_sp_e8 b1
  | 9 => .jp_hl
  | 10 => .ld_atN16_a (immWord b1 b2)
  | 11 => .illegal_eb
  | 12 => .illegal_ec
  | 13 => .illegal_ed
  | 14 => .xor_a_n8 b1
  | _ => .rst_28

/-- Row 0xF_ of the unprefixed opcode map (R130); `b1` and `b2` are the bytes after the opcode. -/
def decodeRowF (lo : Nat) (b1 b2 : Byte) : Instr :=
  match lo with
  | 0 => .ldh_a_atN8 b1
  | 1 => .pop_af
  | 2 => .ld_a_atC
  | 3 => .di
  | 4 => .illegal_f4
  | 5 => .push_af
  | 6 => .or_a_n8 b1
  | 7 => .rst_30
  | 8 => .ld_hl_sp_e8 b1
  | 9 => .ld_sp_hl
  | 10 => .ld_a_atN16 (immWord b1 b2)
  | 11 => .ei
  | 12 => .illegal_fc
  | 13 => .illegal_fd
  | 14 => .cp_a_n8 b1
  | _ => .rst_38

/-- The instruction that starts with byte `b0` and goes on with `b1` and `b2`; of those two the
instruction may use fewer (R120, R130). Every byte is an instruction or one of the eleven rows that
are not (R132), so nothing is rejected here. -/
def decode3 (b0 b1 b2 : Byte) : Instr :=
  match b0.toNat / 16 with
  | 0 => decodeRow0 (b0.toNat % 16) b1 b2
  | 1 => decodeRow1 (b0.toNat % 16) b1 b2
  | 2 => decodeRow2 (b0.toNat % 16) b1 b2
  | 3 => decodeRow3 (b0.toNat % 16) b1 b2
  | 4 => decodeRow4 (b0.toNat % 16) b1 b2
  | 5 => decodeRow5 (b0.toNat % 16) b1 b2
  | 6 => decodeRow6 (b0.toNat % 16) b1 b2
  | 7 => decodeRow7 (b0.toNat % 16) b1 b2
  | 8 => decodeRow8 (b0.toNat % 16) b1 b2
  | 9 => decodeRow9 (b0.toNat % 16) b1 b2
  | 10 => decodeRowA (b0.toNat % 16) b1 b2
  | 11 => decodeRowB (b0.toNat % 16) b1 b2
  | 12 => decodeRowC (b0.toNat % 16) b1 b2
  | 13 => decodeRowD (b0.toNat % 16) b1 b2
  | 14 => decodeRowE (b0.toNat % 16) b1 b2
  | _ => decodeRowF (b0.toNat % 16) b1 b2

/-- Why a byte string is no instruction. -/
inductive DecodeError where
  /-- The string is empty. -/
  | empty
  /-- The string ends before the instruction its first byte starts does (R120). -/
  | truncated (first : Byte)
  deriving DecidableEq, Repr

/-- The first instruction of a byte string, with the bytes after it. -/
def decode : List Byte → Except DecodeError (Instr × List Byte)
  | [] => .error .empty
  | b0 :: rest =>
    if rest.length + 1 < lengthOf b0 then .error (.truncated b0)
    else .ok (decode3 b0 (rest.getD 0 0) (rest.getD 1 0), rest.drop (lengthOf b0 - 1))

/-- The bytes of an instruction in stream order (R121). -/
def encode : Instr → List Byte
  | .nop => [0x00]
  | .ld_bc_n16 nn => [0x01, immLo nn, immHi nn]
  | .ld_atBC_a => [0x02]
  | .inc_bc => [0x03]
  | .inc_b => [0x04]
  | .dec_b => [0x05]
  | .ld_b_n8 n => [0x06, n]
  | .rlca => [0x07]
  | .ld_atN16_sp nn => [0x08, immLo nn, immHi nn]
  | .add_hl_bc => [0x09]
  | .ld_a_atBC => [0x0A]
  | .dec_bc => [0x0B]
  | .inc_c => [0x0C]
  | .dec_c => [0x0D]
  | .ld_c_n8 n => [0x0E, n]
  | .rrca => [0x0F]
  | .stop n => [0x10, n]
  | .ld_de_n16 nn => [0x11, immLo nn, immHi nn]
  | .ld_atDE_a => [0x12]
  | .inc_de => [0x13]
  | .inc_d => [0x14]
  | .dec_d => [0x15]
  | .ld_d_n8 n => [0x16, n]
  | .rla => [0x17]
  | .jr_e8 e => [0x18, e]
  | .add_hl_de => [0x19]
  | .ld_a_atDE => [0x1A]
  | .dec_de => [0x1B]
  | .inc_e => [0x1C]
  | .dec_e => [0x1D]
  | .ld_e_n8 n => [0x1E, n]
  | .rra => [0x1F]
  | .jr_nz_e8 e => [0x20, e]
  | .ld_hl_n16 nn => [0x21, immLo nn, immHi nn]
  | .ld_atHLinc_a => [0x22]
  | .inc_hl => [0x23]
  | .inc_h => [0x24]
  | .dec_h => [0x25]
  | .ld_h_n8 n => [0x26, n]
  | .daa => [0x27]
  | .jr_z_e8 e => [0x28, e]
  | .add_hl_hl => [0x29]
  | .ld_a_atHLinc => [0x2A]
  | .dec_hl => [0x2B]
  | .inc_l => [0x2C]
  | .dec_l => [0x2D]
  | .ld_l_n8 n => [0x2E, n]
  | .cpl => [0x2F]
  | .jr_nc_e8 e => [0x30, e]
  | .ld_sp_n16 nn => [0x31, immLo nn, immHi nn]
  | .ld_atHLdec_a => [0x32]
  | .inc_sp => [0x33]
  | .inc_atHL => [0x34]
  | .dec_atHL => [0x35]
  | .ld_atHL_n8 n => [0x36, n]
  | .scf => [0x37]
  | .jr_c_e8 e => [0x38, e]
  | .add_hl_sp => [0x39]
  | .ld_a_atHLdec => [0x3A]
  | .dec_sp => [0x3B]
  | .inc_a => [0x3C]
  | .dec_a => [0x3D]
  | .ld_a_n8 n => [0x3E, n]
  | .ccf => [0x3F]
  | .ld_b_b => [0x40]
  | .ld_b_c => [0x41]
  | .ld_b_d => [0x42]
  | .ld_b_e => [0x43]
  | .ld_b_h => [0x44]
  | .ld_b_l => [0x45]
  | .ld_b_atHL => [0x46]
  | .ld_b_a => [0x47]
  | .ld_c_b => [0x48]
  | .ld_c_c => [0x49]
  | .ld_c_d => [0x4A]
  | .ld_c_e => [0x4B]
  | .ld_c_h => [0x4C]
  | .ld_c_l => [0x4D]
  | .ld_c_atHL => [0x4E]
  | .ld_c_a => [0x4F]
  | .ld_d_b => [0x50]
  | .ld_d_c => [0x51]
  | .ld_d_d => [0x52]
  | .ld_d_e => [0x53]
  | .ld_d_h => [0x54]
  | .ld_d_l => [0x55]
  | .ld_d_atHL => [0x56]
  | .ld_d_a => [0x57]
  | .ld_e_b => [0x58]
  | .ld_e_c => [0x59]
  | .ld_e_d => [0x5A]
  | .ld_e_e => [0x5B]
  | .ld_e_h => [0x5C]
  | .ld_e_l => [0x5D]
  | .ld_e_atHL => [0x5E]
  | .ld_e_a => [0x5F]
  | .ld_h_b => [0x60]
  | .ld_h_c => [0x61]
  | .ld_h_d => [0x62]
  | .ld_h_e => [0x63]
  | .ld_h_h => [0x64]
  | .ld_h_l => [0x65]
  | .ld_h_atHL => [0x66]
  | .ld_h_a => [0x67]
  | .ld_l_b => [0x68]
  | .ld_l_c => [0x69]
  | .ld_l_d => [0x6A]
  | .ld_l_e => [0x6B]
  | .ld_l_h => [0x6C]
  | .ld_l_l => [0x6D]
  | .ld_l_atHL => [0x6E]
  | .ld_l_a => [0x6F]
  | .ld_atHL_b => [0x70]
  | .ld_atHL_c => [0x71]
  | .ld_atHL_d => [0x72]
  | .ld_atHL_e => [0x73]
  | .ld_atHL_h => [0x74]
  | .ld_atHL_l => [0x75]
  | .halt => [0x76]
  | .ld_atHL_a => [0x77]
  | .ld_a_b => [0x78]
  | .ld_a_c => [0x79]
  | .ld_a_d => [0x7A]
  | .ld_a_e => [0x7B]
  | .ld_a_h => [0x7C]
  | .ld_a_l => [0x7D]
  | .ld_a_atHL => [0x7E]
  | .ld_a_a => [0x7F]
  | .add_a_b => [0x80]
  | .add_a_c => [0x81]
  | .add_a_d => [0x82]
  | .add_a_e => [0x83]
  | .add_a_h => [0x84]
  | .add_a_l => [0x85]
  | .add_a_atHL => [0x86]
  | .add_a_a => [0x87]
  | .adc_a_b => [0x88]
  | .adc_a_c => [0x89]
  | .adc_a_d => [0x8A]
  | .adc_a_e => [0x8B]
  | .adc_a_h => [0x8C]
  | .adc_a_l => [0x8D]
  | .adc_a_atHL => [0x8E]
  | .adc_a_a => [0x8F]
  | .sub_a_b => [0x90]
  | .sub_a_c => [0x91]
  | .sub_a_d => [0x92]
  | .sub_a_e => [0x93]
  | .sub_a_h => [0x94]
  | .sub_a_l => [0x95]
  | .sub_a_atHL => [0x96]
  | .sub_a_a => [0x97]
  | .sbc_a_b => [0x98]
  | .sbc_a_c => [0x99]
  | .sbc_a_d => [0x9A]
  | .sbc_a_e => [0x9B]
  | .sbc_a_h => [0x9C]
  | .sbc_a_l => [0x9D]
  | .sbc_a_atHL => [0x9E]
  | .sbc_a_a => [0x9F]
  | .and_a_b => [0xA0]
  | .and_a_c => [0xA1]
  | .and_a_d => [0xA2]
  | .and_a_e => [0xA3]
  | .and_a_h => [0xA4]
  | .and_a_l => [0xA5]
  | .and_a_atHL => [0xA6]
  | .and_a_a => [0xA7]
  | .xor_a_b => [0xA8]
  | .xor_a_c => [0xA9]
  | .xor_a_d => [0xAA]
  | .xor_a_e => [0xAB]
  | .xor_a_h => [0xAC]
  | .xor_a_l => [0xAD]
  | .xor_a_atHL => [0xAE]
  | .xor_a_a => [0xAF]
  | .or_a_b => [0xB0]
  | .or_a_c => [0xB1]
  | .or_a_d => [0xB2]
  | .or_a_e => [0xB3]
  | .or_a_h => [0xB4]
  | .or_a_l => [0xB5]
  | .or_a_atHL => [0xB6]
  | .or_a_a => [0xB7]
  | .cp_a_b => [0xB8]
  | .cp_a_c => [0xB9]
  | .cp_a_d => [0xBA]
  | .cp_a_e => [0xBB]
  | .cp_a_h => [0xBC]
  | .cp_a_l => [0xBD]
  | .cp_a_atHL => [0xBE]
  | .cp_a_a => [0xBF]
  | .ret_nz => [0xC0]
  | .pop_bc => [0xC1]
  | .jp_nz_n16 nn => [0xC2, immLo nn, immHi nn]
  | .jp_n16 nn => [0xC3, immLo nn, immHi nn]
  | .call_nz_n16 nn => [0xC4, immLo nn, immHi nn]
  | .push_bc => [0xC5]
  | .add_a_n8 n => [0xC6, n]
  | .rst_00 => [0xC7]
  | .ret_z => [0xC8]
  | .ret => [0xC9]
  | .jp_z_n16 nn => [0xCA, immLo nn, immHi nn]
  | .call_z_n16 nn => [0xCC, immLo nn, immHi nn]
  | .call_n16 nn => [0xCD, immLo nn, immHi nn]
  | .adc_a_n8 n => [0xCE, n]
  | .rst_08 => [0xCF]
  | .ret_nc => [0xD0]
  | .pop_de => [0xD1]
  | .jp_nc_n16 nn => [0xD2, immLo nn, immHi nn]
  | .call_nc_n16 nn => [0xD4, immLo nn, immHi nn]
  | .push_de => [0xD5]
  | .sub_a_n8 n => [0xD6, n]
  | .rst_10 => [0xD7]
  | .ret_c => [0xD8]
  | .reti => [0xD9]
  | .jp_c_n16 nn => [0xDA, immLo nn, immHi nn]
  | .call_c_n16 nn => [0xDC, immLo nn, immHi nn]
  | .sbc_a_n8 n => [0xDE, n]
  | .rst_18 => [0xDF]
  | .ldh_atN8_a n => [0xE0, n]
  | .pop_hl => [0xE1]
  | .ld_atC_a => [0xE2]
  | .push_hl => [0xE5]
  | .and_a_n8 n => [0xE6, n]
  | .rst_20 => [0xE7]
  | .add_sp_e8 e => [0xE8, e]
  | .jp_hl => [0xE9]
  | .ld_atN16_a nn => [0xEA, immLo nn, immHi nn]
  | .xor_a_n8 n => [0xEE, n]
  | .rst_28 => [0xEF]
  | .ldh_a_atN8 n => [0xF0, n]
  | .pop_af => [0xF1]
  | .ld_a_atC => [0xF2]
  | .di => [0xF3]
  | .push_af => [0xF5]
  | .or_a_n8 n => [0xF6, n]
  | .rst_30 => [0xF7]
  | .ld_hl_sp_e8 e => [0xF8, e]
  | .ld_sp_hl => [0xF9]
  | .ld_a_atN16 nn => [0xFA, immLo nn, immHi nn]
  | .ei => [0xFB]
  | .cp_a_n8 n => [0xFE, n]
  | .rst_38 => [0xFF]
  | .rlc_b => [0xCB, 0x00]
  | .rlc_c => [0xCB, 0x01]
  | .rlc_d => [0xCB, 0x02]
  | .rlc_e => [0xCB, 0x03]
  | .rlc_h => [0xCB, 0x04]
  | .rlc_l => [0xCB, 0x05]
  | .rlc_atHL => [0xCB, 0x06]
  | .rlc_a => [0xCB, 0x07]
  | .rrc_b => [0xCB, 0x08]
  | .rrc_c => [0xCB, 0x09]
  | .rrc_d => [0xCB, 0x0A]
  | .rrc_e => [0xCB, 0x0B]
  | .rrc_h => [0xCB, 0x0C]
  | .rrc_l => [0xCB, 0x0D]
  | .rrc_atHL => [0xCB, 0x0E]
  | .rrc_a => [0xCB, 0x0F]
  | .rl_b => [0xCB, 0x10]
  | .rl_c => [0xCB, 0x11]
  | .rl_d => [0xCB, 0x12]
  | .rl_e => [0xCB, 0x13]
  | .rl_h => [0xCB, 0x14]
  | .rl_l => [0xCB, 0x15]
  | .rl_atHL => [0xCB, 0x16]
  | .rl_a => [0xCB, 0x17]
  | .rr_b => [0xCB, 0x18]
  | .rr_c => [0xCB, 0x19]
  | .rr_d => [0xCB, 0x1A]
  | .rr_e => [0xCB, 0x1B]
  | .rr_h => [0xCB, 0x1C]
  | .rr_l => [0xCB, 0x1D]
  | .rr_atHL => [0xCB, 0x1E]
  | .rr_a => [0xCB, 0x1F]
  | .sla_b => [0xCB, 0x20]
  | .sla_c => [0xCB, 0x21]
  | .sla_d => [0xCB, 0x22]
  | .sla_e => [0xCB, 0x23]
  | .sla_h => [0xCB, 0x24]
  | .sla_l => [0xCB, 0x25]
  | .sla_atHL => [0xCB, 0x26]
  | .sla_a => [0xCB, 0x27]
  | .sra_b => [0xCB, 0x28]
  | .sra_c => [0xCB, 0x29]
  | .sra_d => [0xCB, 0x2A]
  | .sra_e => [0xCB, 0x2B]
  | .sra_h => [0xCB, 0x2C]
  | .sra_l => [0xCB, 0x2D]
  | .sra_atHL => [0xCB, 0x2E]
  | .sra_a => [0xCB, 0x2F]
  | .swap_b => [0xCB, 0x30]
  | .swap_c => [0xCB, 0x31]
  | .swap_d => [0xCB, 0x32]
  | .swap_e => [0xCB, 0x33]
  | .swap_h => [0xCB, 0x34]
  | .swap_l => [0xCB, 0x35]
  | .swap_atHL => [0xCB, 0x36]
  | .swap_a => [0xCB, 0x37]
  | .srl_b => [0xCB, 0x38]
  | .srl_c => [0xCB, 0x39]
  | .srl_d => [0xCB, 0x3A]
  | .srl_e => [0xCB, 0x3B]
  | .srl_h => [0xCB, 0x3C]
  | .srl_l => [0xCB, 0x3D]
  | .srl_atHL => [0xCB, 0x3E]
  | .srl_a => [0xCB, 0x3F]
  | .bit_0_b => [0xCB, 0x40]
  | .bit_0_c => [0xCB, 0x41]
  | .bit_0_d => [0xCB, 0x42]
  | .bit_0_e => [0xCB, 0x43]
  | .bit_0_h => [0xCB, 0x44]
  | .bit_0_l => [0xCB, 0x45]
  | .bit_0_atHL => [0xCB, 0x46]
  | .bit_0_a => [0xCB, 0x47]
  | .bit_1_b => [0xCB, 0x48]
  | .bit_1_c => [0xCB, 0x49]
  | .bit_1_d => [0xCB, 0x4A]
  | .bit_1_e => [0xCB, 0x4B]
  | .bit_1_h => [0xCB, 0x4C]
  | .bit_1_l => [0xCB, 0x4D]
  | .bit_1_atHL => [0xCB, 0x4E]
  | .bit_1_a => [0xCB, 0x4F]
  | .bit_2_b => [0xCB, 0x50]
  | .bit_2_c => [0xCB, 0x51]
  | .bit_2_d => [0xCB, 0x52]
  | .bit_2_e => [0xCB, 0x53]
  | .bit_2_h => [0xCB, 0x54]
  | .bit_2_l => [0xCB, 0x55]
  | .bit_2_atHL => [0xCB, 0x56]
  | .bit_2_a => [0xCB, 0x57]
  | .bit_3_b => [0xCB, 0x58]
  | .bit_3_c => [0xCB, 0x59]
  | .bit_3_d => [0xCB, 0x5A]
  | .bit_3_e => [0xCB, 0x5B]
  | .bit_3_h => [0xCB, 0x5C]
  | .bit_3_l => [0xCB, 0x5D]
  | .bit_3_atHL => [0xCB, 0x5E]
  | .bit_3_a => [0xCB, 0x5F]
  | .bit_4_b => [0xCB, 0x60]
  | .bit_4_c => [0xCB, 0x61]
  | .bit_4_d => [0xCB, 0x62]
  | .bit_4_e => [0xCB, 0x63]
  | .bit_4_h => [0xCB, 0x64]
  | .bit_4_l => [0xCB, 0x65]
  | .bit_4_atHL => [0xCB, 0x66]
  | .bit_4_a => [0xCB, 0x67]
  | .bit_5_b => [0xCB, 0x68]
  | .bit_5_c => [0xCB, 0x69]
  | .bit_5_d => [0xCB, 0x6A]
  | .bit_5_e => [0xCB, 0x6B]
  | .bit_5_h => [0xCB, 0x6C]
  | .bit_5_l => [0xCB, 0x6D]
  | .bit_5_atHL => [0xCB, 0x6E]
  | .bit_5_a => [0xCB, 0x6F]
  | .bit_6_b => [0xCB, 0x70]
  | .bit_6_c => [0xCB, 0x71]
  | .bit_6_d => [0xCB, 0x72]
  | .bit_6_e => [0xCB, 0x73]
  | .bit_6_h => [0xCB, 0x74]
  | .bit_6_l => [0xCB, 0x75]
  | .bit_6_atHL => [0xCB, 0x76]
  | .bit_6_a => [0xCB, 0x77]
  | .bit_7_b => [0xCB, 0x78]
  | .bit_7_c => [0xCB, 0x79]
  | .bit_7_d => [0xCB, 0x7A]
  | .bit_7_e => [0xCB, 0x7B]
  | .bit_7_h => [0xCB, 0x7C]
  | .bit_7_l => [0xCB, 0x7D]
  | .bit_7_atHL => [0xCB, 0x7E]
  | .bit_7_a => [0xCB, 0x7F]
  | .res_0_b => [0xCB, 0x80]
  | .res_0_c => [0xCB, 0x81]
  | .res_0_d => [0xCB, 0x82]
  | .res_0_e => [0xCB, 0x83]
  | .res_0_h => [0xCB, 0x84]
  | .res_0_l => [0xCB, 0x85]
  | .res_0_atHL => [0xCB, 0x86]
  | .res_0_a => [0xCB, 0x87]
  | .res_1_b => [0xCB, 0x88]
  | .res_1_c => [0xCB, 0x89]
  | .res_1_d => [0xCB, 0x8A]
  | .res_1_e => [0xCB, 0x8B]
  | .res_1_h => [0xCB, 0x8C]
  | .res_1_l => [0xCB, 0x8D]
  | .res_1_atHL => [0xCB, 0x8E]
  | .res_1_a => [0xCB, 0x8F]
  | .res_2_b => [0xCB, 0x90]
  | .res_2_c => [0xCB, 0x91]
  | .res_2_d => [0xCB, 0x92]
  | .res_2_e => [0xCB, 0x93]
  | .res_2_h => [0xCB, 0x94]
  | .res_2_l => [0xCB, 0x95]
  | .res_2_atHL => [0xCB, 0x96]
  | .res_2_a => [0xCB, 0x97]
  | .res_3_b => [0xCB, 0x98]
  | .res_3_c => [0xCB, 0x99]
  | .res_3_d => [0xCB, 0x9A]
  | .res_3_e => [0xCB, 0x9B]
  | .res_3_h => [0xCB, 0x9C]
  | .res_3_l => [0xCB, 0x9D]
  | .res_3_atHL => [0xCB, 0x9E]
  | .res_3_a => [0xCB, 0x9F]
  | .res_4_b => [0xCB, 0xA0]
  | .res_4_c => [0xCB, 0xA1]
  | .res_4_d => [0xCB, 0xA2]
  | .res_4_e => [0xCB, 0xA3]
  | .res_4_h => [0xCB, 0xA4]
  | .res_4_l => [0xCB, 0xA5]
  | .res_4_atHL => [0xCB, 0xA6]
  | .res_4_a => [0xCB, 0xA7]
  | .res_5_b => [0xCB, 0xA8]
  | .res_5_c => [0xCB, 0xA9]
  | .res_5_d => [0xCB, 0xAA]
  | .res_5_e => [0xCB, 0xAB]
  | .res_5_h => [0xCB, 0xAC]
  | .res_5_l => [0xCB, 0xAD]
  | .res_5_atHL => [0xCB, 0xAE]
  | .res_5_a => [0xCB, 0xAF]
  | .res_6_b => [0xCB, 0xB0]
  | .res_6_c => [0xCB, 0xB1]
  | .res_6_d => [0xCB, 0xB2]
  | .res_6_e => [0xCB, 0xB3]
  | .res_6_h => [0xCB, 0xB4]
  | .res_6_l => [0xCB, 0xB5]
  | .res_6_atHL => [0xCB, 0xB6]
  | .res_6_a => [0xCB, 0xB7]
  | .res_7_b => [0xCB, 0xB8]
  | .res_7_c => [0xCB, 0xB9]
  | .res_7_d => [0xCB, 0xBA]
  | .res_7_e => [0xCB, 0xBB]
  | .res_7_h => [0xCB, 0xBC]
  | .res_7_l => [0xCB, 0xBD]
  | .res_7_atHL => [0xCB, 0xBE]
  | .res_7_a => [0xCB, 0xBF]
  | .set_0_b => [0xCB, 0xC0]
  | .set_0_c => [0xCB, 0xC1]
  | .set_0_d => [0xCB, 0xC2]
  | .set_0_e => [0xCB, 0xC3]
  | .set_0_h => [0xCB, 0xC4]
  | .set_0_l => [0xCB, 0xC5]
  | .set_0_atHL => [0xCB, 0xC6]
  | .set_0_a => [0xCB, 0xC7]
  | .set_1_b => [0xCB, 0xC8]
  | .set_1_c => [0xCB, 0xC9]
  | .set_1_d => [0xCB, 0xCA]
  | .set_1_e => [0xCB, 0xCB]
  | .set_1_h => [0xCB, 0xCC]
  | .set_1_l => [0xCB, 0xCD]
  | .set_1_atHL => [0xCB, 0xCE]
  | .set_1_a => [0xCB, 0xCF]
  | .set_2_b => [0xCB, 0xD0]
  | .set_2_c => [0xCB, 0xD1]
  | .set_2_d => [0xCB, 0xD2]
  | .set_2_e => [0xCB, 0xD3]
  | .set_2_h => [0xCB, 0xD4]
  | .set_2_l => [0xCB, 0xD5]
  | .set_2_atHL => [0xCB, 0xD6]
  | .set_2_a => [0xCB, 0xD7]
  | .set_3_b => [0xCB, 0xD8]
  | .set_3_c => [0xCB, 0xD9]
  | .set_3_d => [0xCB, 0xDA]
  | .set_3_e => [0xCB, 0xDB]
  | .set_3_h => [0xCB, 0xDC]
  | .set_3_l => [0xCB, 0xDD]
  | .set_3_atHL => [0xCB, 0xDE]
  | .set_3_a => [0xCB, 0xDF]
  | .set_4_b => [0xCB, 0xE0]
  | .set_4_c => [0xCB, 0xE1]
  | .set_4_d => [0xCB, 0xE2]
  | .set_4_e => [0xCB, 0xE3]
  | .set_4_h => [0xCB, 0xE4]
  | .set_4_l => [0xCB, 0xE5]
  | .set_4_atHL => [0xCB, 0xE6]
  | .set_4_a => [0xCB, 0xE7]
  | .set_5_b => [0xCB, 0xE8]
  | .set_5_c => [0xCB, 0xE9]
  | .set_5_d => [0xCB, 0xEA]
  | .set_5_e => [0xCB, 0xEB]
  | .set_5_h => [0xCB, 0xEC]
  | .set_5_l => [0xCB, 0xED]
  | .set_5_atHL => [0xCB, 0xEE]
  | .set_5_a => [0xCB, 0xEF]
  | .set_6_b => [0xCB, 0xF0]
  | .set_6_c => [0xCB, 0xF1]
  | .set_6_d => [0xCB, 0xF2]
  | .set_6_e => [0xCB, 0xF3]
  | .set_6_h => [0xCB, 0xF4]
  | .set_6_l => [0xCB, 0xF5]
  | .set_6_atHL => [0xCB, 0xF6]
  | .set_6_a => [0xCB, 0xF7]
  | .set_7_b => [0xCB, 0xF8]
  | .set_7_c => [0xCB, 0xF9]
  | .set_7_d => [0xCB, 0xFA]
  | .set_7_e => [0xCB, 0xFB]
  | .set_7_h => [0xCB, 0xFC]
  | .set_7_l => [0xCB, 0xFD]
  | .set_7_atHL => [0xCB, 0xFE]
  | .set_7_a => [0xCB, 0xFF]
  | .illegal_d3 => [0xD3]
  | .illegal_db => [0xDB]
  | .illegal_dd => [0xDD]
  | .illegal_e3 => [0xE3]
  | .illegal_e4 => [0xE4]
  | .illegal_eb => [0xEB]
  | .illegal_ec => [0xEC]
  | .illegal_ed => [0xED]
  | .illegal_f4 => [0xF4]
  | .illegal_fc => [0xFC]
  | .illegal_fd => [0xFD]

/-- An opcode byte by its fields x, y and z (R122). -/
def opByte (x : BitVec 2) (y z : BitVec 3) : Byte := x ++ y ++ z

/-- An opcode byte by its fields x, p, q and z (R122). -/
def opBytePQ (x p : BitVec 2) (q : BitVec 1) (z : BitVec 3) : Byte := x ++ p ++ q ++ z

/-- The stream bytes of an instruction given as a number of `nbits` bits, as opcode_table.json
numbers them. A row of the prefixed page has the prefix 0xCB as the HIGH byte of its 16 bits
(30_encoding.md, `match` and `mask`); in every other word bit 0 is the lowest bit of the first byte
and a later byte's bits count on. Bits above the word are 0 (assumption log 4). -/
def tableWordBytes (nbits w : Nat) : List Byte :=
  if nbits = 16 ∧ w / 256 % 256 = 0xCB then [0xCB, BitVec.ofNat 8 w, 0]
  else [BitVec.ofNat 8 w, BitVec.ofNat 8 (w / 256), BitVec.ofNat 8 (w / 65536)]

/-- The instruction the decoder reads from an instruction word of the opcode table. -/
def decodeTableWord (nbits w : Nat) : Option Instr :=
  match decode (tableWordBytes nbits w) with
  | .ok (i, _) => some i
  | .error _ => none

end Sys2Proof
end

