-- ==== Sys2Proof/Config.lean ====
section
/-! DEFINITION. The implementation parameters of 00_scope.md R8 whose value the spec states. The two
parameters the spec leaves OPEN, the images `BOOT_ROM` and `CARTRIDGE`, are given to the machine at
reset (R64, R700), so they are fields of `Machine.State` and arguments of `State.resetWith`. The
spec leaves no value of this machine free: there is no opaque constant here. -/

namespace Sys2Proof.Config

/-- `LCD_ON_DELAY`: cycles from a power-on write to Mode 2 of line 0 (R8, R551). -/
def lcdOnDelay : Nat := 19

/-- Cycles of Mode 2, the OAM scan (R8, R561). -/
def mode2Cycles : Nat := 20

/-- Cycles of Mode 3, the pixel transfer (R8, R561). -/
def mode3Cycles : Nat := 43

/-- Cycles of Mode 0, the horizontal blank (R8, R561). -/
def mode0Cycles : Nat := 51

/-- Cycles of one vertical-blank line, and of any whole line (R8, R561). -/
def lineCycles : Nat := 114

/-- Cycles charged for an interrupt service (R8, R514). -/
def serviceCycles : Nat := 5

/-- The timer's main counter rises by this much in every cycle (R8, R530). -/
def timerIncrement : Word := 4

/-- Screen width in pixels (R8). -/
def screenWidth : Nat := 160

/-- Screen height in lines (R8). -/
def screenHeight : Nat := 144

/-- OAM entries (R8). -/
def oamEntries : Nat := 40

/-- Most sprites drawn on one line (R8). -/
def maxSpritesPerLine : Nat := 10

/-- What a bus read returns when no component answers (R8, R71). -/
def unmappedRead : Byte := 0xFF

end Sys2Proof.Config
end

