-- ==== Sys2Proof/Machine/State.lean ====
section
/-! DEFINITION. The machine's state, all of it plain data: every piece of state 10_state.md names
(R30 to R65), grouped by the component that owns it, the reasons a step can stop, and reset. -/

namespace Sys2Proof.Machine

/-- The contents of one memory: the bytes that differ from 0x00, as pairs of an index into that
memory and a byte, in rising order of index. An index that is not listed reads 0x00, the reset
contents of every RAM (R38, R54, R55, R62). The canonical form is `Memory.wf`. -/
abbrev Memory := List Host.Cell

/-- The record of a fatal fault (R41, R518, R519). -/
inductive FaultRecord where
  /-- STOP executed (R402): the cycle of the tick, the PC and the opcode byte. -/
  | stopUnsupported (cycle : Nat) (pc : Word) (opcode : Byte)
  /-- One of the eleven unused bytes executed (R405): the cycle of the tick, the PC and the byte. -/
  | illegalOpcode (cycle : Nat) (pc : Word) (opcode : Byte)
  /-- The host asked to advance to an earlier cycle (R601): the cycle T and the cycle asked for. -/
  | cycleOrder (cycle : Nat) (requested : Nat)
  deriving DecidableEq, Repr

/-- The reasons a step stops with a fault. -/
inductive Fault where
  /-- Raised by `step` alone, on a machine whose fault state is not `none`: "a faulted machine does
  not step" (R500, R518). Safe: the faulted state itself is the last next state of the run. -/
  | fatal (record : FaultRecord)
  deriving DecidableEq, Repr

/-- The reasons a step is refused. -/
inductive Refusal where
  /-- The arm of `exec` for an instruction that has no meaning yet; no arm of this model raises it.
  Safe: the run stops. -/
  | notModelled (mnemonic : String)
  deriving DecidableEq, Repr

/-- What a step of this machine answers. -/
abbrev Result (σ : Type) := Host.Outcome σ Fault Refusal

/-- The CPU component: register file (R30 to R34), interrupt state (R35 to R37), high RAM (R38) and
wake-up cycle (R39). -/
structure Cpu where
  a : Byte
  f : Byte
  b : Byte
  c : Byte
  d : Byte
  e : Byte
  h : Byte
  l : Byte
  pc : Word
  sp : Word
  /-- IME (R35). -/
  ime : Bool
  /-- IE (R36). -/
  ie : BitVec 5
  /-- IF (R37). -/
  iflag : BitVec 5
  /-- High RAM, HRAM[0..126] (R38). -/
  hram : Memory
  /-- W, the wake-up cycle; `none` is the spec's `never` (R39). -/
  wake : Option Nat
  deriving DecidableEq, Repr

/-- The timer component (R42 to R45). -/
structure Timer where
  /-- DIVC, the 16-bit main counter (R42). -/
  divc : Word
  tima : Byte
  tma : Byte
  tac : Byte
  deriving DecidableEq, Repr

/-- The LCD controller's phase (R56). -/
inductive Phase where
  | off | starting | mode2 | mode3 | mode0 | mode1
  deriving DecidableEq, Repr

/-- One pixel of a line: one bit of each of the line's three planes (R571). -/
structure Pixel where
  msb : Bool
  lsb : Bool
  opa : Bool
  deriving DecidableEq, Repr

/-- A line of pixels, pixel 0 the leftmost; its width is its length (R571). -/
abbrev Line := List Pixel

/-- A row of colour indices, pixel 0 the leftmost. -/
abbrev ColorRow := List (BitVec 2)

/-- The LCD controller: the twelve registers (R46 to R53), video RAM and OAM (R54, R55), the mode
state machine (R56), the window row counter (R57), the DMA engine (R58) and the images (R59). -/
structure Lcd where
  lcdc : Byte
  stat : Byte
  scy : Byte
  scx : Byte
  ly : Byte
  lyc : Byte
  dma : Byte
  bgp : Byte
  obp0 : Byte
  obp1 : Byte
  wy : Byte
  wx : Byte
  /-- VRAM[0..8191] (R54). -/
  vram : Memory
  /-- OAM[0..159] (R55). -/
  oam : Memory
  phase : Phase
  /-- L, the next-active cycle; `none` is the spec's `never` (R56). -/
  next : Option Nat
  /-- WLINE (R57). -/
  wline : Byte
  dmaActive : Bool
  dmaSrc : Byte
  /-- DMA_IDX, 0..160 (R58). -/
  dmaIdx : Nat
  /-- FRAME_BUF: the lines completed so far, or `none` (R59). -/
  frameBuf : Option (List Line)
  /-- CUR_IMAGE: the colour indices of the last completed frame, row by row (R59). -/
  curImage : List ColorRow
  deriving DecidableEq, Repr

/-- The joypad component (R60, R61). -/
structure Joypad where
  line0 : BitVec 4
  line1 : BitVec 4
  /-- P1I, the internal value of P1 (R61). -/
  p1i : BitVec 6
  deriving DecidableEq, Repr

/-- The whole machine (R30 to R65). -/
structure State where
  cpu : Cpu
  timer : Timer
  lcd : Lcd
  joypad : Joypad
  /-- WRAM[0..8191] (R62). -/
  wram : Memory
  /-- BOOT_EN (R63). -/
  bootEn : Bool
  /-- BOOT_ROM[0..255], a parameter (R64). -/
  bootRom : Memory
  /-- CARTRIDGE[0..32767], a parameter (R64). -/
  cartridge : Memory
  /-- T, the number of the next tick to be processed (R65). -/
  cycle : Nat
  /-- The fault state (R41); `none` is the spec's `none`. -/
  fault : Option FaultRecord
  deriving DecidableEq, Repr

/-- The blank image: every pixel colour 0 (R59). -/
def blankImage : List ColorRow :=
  List.replicate Config.screenHeight (List.replicate Config.screenWidth 0)

/-- The CPU after reset (R701). -/
def Cpu.reset : Cpu :=
  { a := 0, f := 0, b := 0, c := 0, d := 0, e := 0, h := 0, l := 0, pc := 0, sp := 0,
    ime := false, ie := 0, iflag := 0, hram := [], wake := some 0 }

/-- The timer after reset (R701). -/
def Timer.reset : Timer := { divc := 0, tima := 0, tma := 0, tac := 0 }

/-- The LCD controller after reset (R701). -/
def Lcd.reset : Lcd :=
  { lcdc := 0, stat := 0, scy := 0, scx := 0, ly := 0, lyc := 0, dma := 0, bgp := 0, obp0 := 0,
    obp1 := 0, wy := 0, wx := 0, vram := [], oam := [], phase := .off, next := none, wline := 0,
    dmaActive := false, dmaSrc := 0, dmaIdx := 0, frameBuf := none, curImage := blankImage }

/-- The joypad after reset (R701). -/
def Joypad.reset : Joypad := { line0 := 0, line1 := 0, p1i := 0 }

/-- Reset with the two images given to the machine (R64, R600, R700, R701). -/
def State.resetWith (bootRom cartridge : Memory) : State :=
  { cpu := Cpu.reset, timer := Timer.reset, lcd := Lcd.reset, joypad := Joypad.reset, wram := [],
    bootEn := true, bootRom := bootRom, cartridge := cartridge, cycle := 0, fault := none }

/-- The machine right after reset, with no image loaded yet: every byte of both images reads 0x00
(assumption log 1). -/
def State.reset : State := State.resetWith [] []

end Sys2Proof.Machine
end

