-- ==== Sys2Proof/Machine/Bits.lean ====
section
/-! DEFINITION. Bit fields, byte order and sign extension (00_scope.md R9, R10, R12). -/

namespace Sys2Proof.Machine

/-- `v[15:8]` (R9). -/
def hiByte (v : Word) : Byte := v.extractLsb' 8 8

/-- `v[7:0]` (R9). -/
def loByte (v : Word) : Byte := v.extractLsb' 0 8

/-- `hi:lo`, the concatenation with `hi` in bits 15..8 (R9). -/
def word16 (hi lo : Byte) : Word := hi ++ lo

/-- `sext_16` (R10). -/
def sext16 (e : Byte) : Word := e.signExtend 16

/-- `zext_16` (R10). -/
def zext16 (n : Byte) : Word := n.setWidth 16

/-- The 5-bit register IE or IF as the byte a read returns: bits 7..5 are 0 (R36, R37). -/
def zext5 (v : BitVec 5) : Byte := v.setWidth 8

/-- The five bits a write of IE or IF keeps: `data & 0x1F` (R36, R37). -/
def low5 (v : Byte) : BitVec 5 := v.setWidth 5

end Sys2Proof.Machine
end

