-- ==== Sys2Proof/Machine/Interrupt.lean ====
section
/-! DEFINITION. The interrupt controller: sources, vectors, requests and priority (60_exceptions.md
section 2). -/

namespace Sys2Proof.Machine

/-- The five interrupt sources (R510). -/
inductive IntSource where
  | vblank | lcdStat | timer | serial | joypad
  deriving DecidableEq, Repr

/-- A source's number: its bit in IE and IF, its priority and the index of its vector (R510). -/
def IntSource.index : IntSource → Nat
  | .vblank => 0
  | .lcdStat => 1
  | .timer => 2
  | .serial => 3
  | .joypad => 4

/-- The source's bit in IE and IF (R510). -/
def IntSource.mask : IntSource → BitVec 5
  | .vblank => 0b00001
  | .lcdStat => 0b00010
  | .timer => 0b00100
  | .serial => 0b01000
  | .joypad => 0b10000

/-- The source's vector, 0x0040 + 8 i (R510, R514). -/
def IntSource.vector (i : IntSource) : Word := 0x0040 + BitVec.ofNat 16 (8 * i.index)

/-- `RaiseInterrupt(i)`: IF <- IF | (1 << i) (R511). -/
def State.raise (s : State) (i : IntSource) : State :=
  { s with cpu := { s.cpu with iflag := s.cpu.iflag ||| i.mask } }

/-- `IE & IF & 0x1F`, the pending sources (R503, R512). -/
def State.pending (s : State) : BitVec 5 := s.cpu.ie &&& s.cpu.iflag

/-- The lowest-indexed source of a set of pending sources (R513). -/
def highestPriority (p : BitVec 5) : Option IntSource :=
  if p.getLsbD 0 then some .vblank
  else if p.getLsbD 1 then some .lcdStat
  else if p.getLsbD 2 then some .timer
  else if p.getLsbD 3 then some .serial
  else if p.getLsbD 4 then some .joypad
  else none

/-- The source a CPU step services: the lowest pending one when IME = 1 (R503, R512, R513). -/
def State.serviceable (s : State) : Option IntSource :=
  if s.cpu.ime then highestPriority s.pending else none

end Sys2Proof.Machine
end

