-- ==== Sys2Proof/Machine/Joypad.lean ====
section
/-! DEFINITION. The joypad register, its interrupt and the host's key events (60_exceptions.md
section 5). -/

namespace Sys2Proof.Machine

/-- The key set, in order (R590). -/
inductive Key where
  | right | left | up | down | a | b | select | start
  deriving DecidableEq, Repr

/-- The key's bit within its line (R60, R590). -/
def Key.mask : Key → BitVec 4
  | .right => 0b0001
  | .left => 0b0010
  | .up => 0b0100
  | .down => 0b1000
  | .a => 0b0001
  | .b => 0b0010
  | .select => 0b0100
  | .start => 0b1000

/-- The key belongs to LINE0, the directions (R60, R590). -/
def Key.inLine0 : Key → Bool
  | .right => true
  | .left => true
  | .up => true
  | .down => true
  | .a => false
  | .b => false
  | .select => false
  | .start => false

/-- P1I[3:0] after a recomputation: the keys of the selected lines; with no line selected the key
bits keep their value (R592). -/
def Joypad.keyBits (j : Joypad) : BitVec 4 :=
  if j.p1i.getLsbD 4 || j.p1i.getLsbD 5 then
    (if j.p1i.getLsbD 4 then j.line0 else 0) ||| (if j.p1i.getLsbD 5 then j.line1 else 0)
  else j.p1i.extractLsb' 0 4

/-- P1I with the key bits recomputed (R592). -/
def Joypad.recomputed (j : Joypad) : Joypad :=
  { j with p1i := j.p1i.extractLsb' 4 2 ++ j.keyBits }

/-- `Recompute(old)`: recompute the key bits, and request JOYPAD when P1I is not `old` (R592). -/
def State.recompute (s : State) (old : BitVec 6) : State :=
  let s' := { s with joypad := s.joypad.recomputed }
  if s'.joypad.p1i ≠ old then s'.raise .joypad else s'

/-- The joypad with a key's bit set or cleared in its line (R591). -/
def Joypad.setKey (j : Joypad) (k : Key) (pressed : Bool) : Joypad :=
  match k.inLine0, pressed with
  | true, true => { j with line0 := j.line0 ||| k.mask }
  | true, false => { j with line0 := j.line0 &&& ~~~k.mask }
  | false, true => { j with line1 := j.line1 ||| k.mask }
  | false, false => { j with line1 := j.line1 &&& ~~~k.mask }

/-- `KeyPressed(q)` (R591). -/
def keyPressed (k : Key) (s : State) : State :=
  { s with joypad := s.joypad.setKey k true }.recompute s.joypad.p1i

/-- `KeyReleased(q)` (R591). -/
def keyReleased (k : Key) (s : State) : State :=
  { s with joypad := s.joypad.setKey k false }.recompute s.joypad.p1i

/-- The joypad's answer to a bus read: `~P1I` (R82, R594). -/
def joypadRead (s : State) (a : Nat) : Option Byte :=
  if a = 0xFF00 then some (~~~(s.joypad.p1i.setWidth 8)) else none

/-- The joypad's part in a bus write: the select bits from the complement of the byte, then
Recompute (R82, R595). -/
def joypadWrite (s : State) (a : Nat) (v : Byte) : State :=
  if a = 0xFF00 then
    { s with joypad := { s.joypad with
        p1i := (~~~v).extractLsb' 4 2 ++ s.joypad.p1i.extractLsb' 0 4 } }.recompute s.joypad.p1i
  else s

end Sys2Proof.Machine
end

