-- ==== Sys2Proof/Machine/Lines.lean ====
section
/-! DEFINITION. Lines as bit planes and the operations on them (60_exceptions.md R571). -/

namespace Sys2Proof.Machine

/-- A pixel of colour 0, transparent. -/
def Pixel.clear : Pixel := { msb := false, lsb := false, opa := false }

/-- The pixel's colour index, `(msb << 1) | lsb` (R571). -/
def Pixel.color (p : Pixel) : BitVec 2 := BitVec.ofBool p.msb ++ BitVec.ofBool p.lsb

/-- `EmptyLine(w)` (R571). -/
def emptyLine (w : Nat) : Line := List.replicate w Pixel.clear

/-- The shade `P[2c+1:2c]` a palette gives colour index `c` (R52). -/
def paletteShade (palette : Byte) (c : BitVec 2) : BitVec 2 := palette.extractLsb' (2 * c.toNat) 2

/-- One pixel under `MapColors`: its colour index is mapped, its opacity is kept (R571). -/
def Pixel.mapColor (palette : Byte) (p : Pixel) : Pixel :=
  let shade := paletteShade palette p.color
  { msb := shade.getLsbD 1, lsb := shade.getLsbD 0, opa := p.opa }

/-- `MapColors(ln, P)` (R571). -/
def Line.mapColors (ln : Line) (palette : Byte) : Line := ln.map (Pixel.mapColor palette)

/-- One pixel of `Over` (R571). -/
def Pixel.over (lower upper : Pixel) : Pixel :=
  let top := if upper.opa then upper else lower
  { msb := top.msb, lsb := top.lsb, opa := lower.opa || upper.opa }

/-- `Over(lower, upper)` (R571). -/
def Line.over (lower upper : Line) : Line := List.zipWith Pixel.over lower upper

/-- One pixel of `OverWhere` (R571). -/
def Pixel.overWhere (lower upper : Pixel) (m : Bool) : Pixel :=
  let top := if m then upper else lower
  { msb := top.msb, lsb := top.lsb, opa := lower.opa || (upper.opa && m) }

/-- `OverWhere(lower, upper, m)`, the mask given as a plane of its own (R571). -/
def Line.overWhere (lower upper : Line) (mask : List Bool) : Line :=
  List.zipWith (fun (pq : Pixel × Pixel) m => pq.1.overWhere pq.2 m) (List.zip lower upper) mask

/-- `Join(left, right, k)` (R571). -/
def Line.join (left right : Line) (k : Nat) : Line := left.take k ++ right.drop k

/-- `Wrapped(ln, s, w)` (R571). -/
def Line.wrapped (ln : Line) (start w : Nat) : Line :=
  (List.range w).map fun x => ln.getD ((start + x) % ln.length) Pixel.clear

/-- `Shifted(ln, d, w)` (R571). -/
def Line.shifted (ln : Line) (d : Int) (w : Nat) : Line :=
  (List.range w).map fun x =>
    if 0 ≤ (x : Int) - d ∧ (x : Int) - d < ln.length then ln.getD ((x : Int) - d).toNat Pixel.clear
    else Pixel.clear

/-- The line's colour indices, its output (R579, R580). -/
def Line.colors (ln : Line) : ColorRow := ln.map Pixel.color

end Sys2Proof.Machine
end

