-- ==== Sys2Proof/Machine/Memory.lean ====
section
/-! DEFINITION. One memory: reading and writing a byte, and the canonical form. -/

namespace Sys2Proof.Machine

/-- The byte at index `a`; an index that is not listed holds 0x00. -/
def Memory.read : Memory → Nat → Byte
  | [], _ => 0
  | (k, v) :: m, a => if k = a then v else Memory.read m a

/-- Drops the entry at index `a`. -/
def Memory.erase : Memory → Nat → Memory
  | [], _ => []
  | (k, v) :: m, a => if k = a then Memory.erase m a else (k, v) :: Memory.erase m a

/-- Puts an entry in its place by index; the index is not listed. -/
def Memory.insert : Memory → Nat → Byte → Memory
  | [], a, v => [(a, v)]
  | (k, w) :: m, a, v => if a < k then (a, v) :: (k, w) :: m else (k, w) :: Memory.insert m a v

/-- Stores a byte; storing 0x00 removes the entry, so that equal memories are equal data. -/
def Memory.write (m : Memory) (a : Nat) (v : Byte) : Memory :=
  if v = 0 then m.erase a else (m.erase a).insert a v

/-- Every index of the memory is above `lo`. -/
def Memory.above (lo : Nat) (m : Memory) : Bool := m.all fun cell => lo < cell.1

/-- The canonical form: indices strictly rising, and no entry equal to 0x00. -/
def Memory.wf : Memory → Bool
  | [] => true
  | (k, v) :: m => v != 0 && Memory.above k m && Memory.wf m

/-- Every index of the memory is below its size. -/
def Memory.fits (m : Memory) (size : Nat) : Bool := m.all fun cell => cell.1 < size

end Sys2Proof.Machine
end

