-- ==== Sys2Proof/Machine/Render.lean ====
section
/-! DEFINITION. Rendering one line: background, window and sprites (60_exceptions.md R570 to R579).
Everything here reads the LCD controller alone. -/

namespace Sys2Proof.Machine

/-- The pixel whose two colour bits are bit `j` of a tile row's bytes; colour 0 is transparent
(R54, R574, R577). -/
def tilePixel (lo hi : Byte) (j : Nat) : Pixel :=
  { msb := hi.getLsbD j, lsb := lo.getLsbD j, opa := lo.getLsbD j || hi.getLsbD j }

/-- The eight pixels of a tile row, bit 7 leftmost (R54, R574). -/
def tileRow (lo hi : Byte) : Line := (List.range 8).map fun i => tilePixel lo hi (7 - i)

/-- LCDC.WIN_MAP, bit 6 (R46). -/
def Lcd.winMap (v : Lcd) : Bool := v.lcdc.getLsbD 6
/-- LCDC.WIN_ENABLE, bit 5 (R46). -/
def Lcd.winEnable (v : Lcd) : Bool := v.lcdc.getLsbD 5
/-- LCDC.TILE_SOURCE, bit 4 (R46). -/
def Lcd.tileSource (v : Lcd) : Bool := v.lcdc.getLsbD 4
/-- LCDC.BG_MAP, bit 3 (R46). -/
def Lcd.bgMap (v : Lcd) : Bool := v.lcdc.getLsbD 3
/-- LCDC.OBJ_SIZE, bit 2 (R46). -/
def Lcd.objSize (v : Lcd) : Bool := v.lcdc.getLsbD 2
/-- LCDC.OBJ_ENABLE, bit 1 (R46). -/
def Lcd.objEnable (v : Lcd) : Bool := v.lcdc.getLsbD 1
/-- LCDC.BG_ENABLE, bit 0 (R46). -/
def Lcd.bgEnable (v : Lcd) : Bool := v.lcdc.getLsbD 0

/-- The tile map an LCDC map bit selects, as a bus address (R46). -/
def mapBase (second : Bool) : Nat := if second then 0x9C00 else 0x9800

/-- `TileAddr(idx)` as a bus address (R574). -/
def Lcd.tileAddr (v : Lcd) (idx : Byte) : Nat :=
  if v.tileSource then 0x8000 + 16 * idx.toNat else ((0x9000 : Int) + 16 * idx.toInt).toNat

/-- The byte of VRAM at a bus address (R54). -/
def Lcd.vramAt (v : Lcd) (addr : Nat) : Byte := v.vram.read (addr - 0x8000)

/-- `TileMapLine(map, row)`, 256 pixels (R574). -/
def Lcd.tileMapLine (v : Lcd) (map row : Nat) : Line :=
  (List.range 32).flatMap fun tx =>
    let base := v.tileAddr (v.vramAt (map + 32 * (row / 8) + tx))
    tileRow (v.vramAt (base + 2 * (row % 8))) (v.vramAt (base + 2 * (row % 8) + 1))

/-- `BackgroundLine(y)` (R572). -/
def Lcd.backgroundLine (v : Lcd) (y : Nat) : Line :=
  ((v.tileMapLine (mapBase v.bgMap) ((y + v.scy.toNat) % 256)).mapColors v.bgp).wrapped
    v.scx.toNat Config.screenWidth

/-- `wx' = max(0, WX - 7)` (R573). -/
def Lcd.windowX (v : Lcd) : Nat := v.wx.toNat - 7

/-- `WindowDrawn(y)` (R573). -/
def Lcd.windowDrawn (v : Lcd) (y : Nat) : Bool :=
  v.winEnable && decide (v.wy.toNat ≤ y) && decide (v.windowX < Config.screenWidth)

/-- `WindowLine()` (R573). -/
def Lcd.windowLine (v : Lcd) : Line :=
  Line.shifted ((v.tileMapLine (mapBase v.winMap) v.wline.toNat).mapColors v.bgp) v.windowX
    Config.screenWidth

/-- The sprite height `h` (R575). -/
def Lcd.spriteHeight (v : Lcd) : Nat := if v.objSize then 16 else 8

/-- `Y_k` (R55, R575). -/
def Lcd.spriteY (v : Lcd) (k : Nat) : Nat := (v.oam.read (4 * k)).toNat
/-- `X_k` (R55, R575). -/
def Lcd.spriteX (v : Lcd) (k : Nat) : Nat := (v.oam.read (4 * k + 1)).toNat
/-- `T_k` (R55, R575). -/
def Lcd.spriteTile (v : Lcd) (k : Nat) : Byte := v.oam.read (4 * k + 2)
/-- `A_k` (R55, R575). -/
def Lcd.spriteAttr (v : Lcd) (k : Nat) : Byte := v.oam.read (4 * k + 3)

/-- Sprite `k` is on line `y`: `0 <= y - (Y_k - 16) < h` (R575). -/
def Lcd.spriteOnLine (v : Lcd) (y k : Nat) : Bool :=
  let r : Int := y - ((v.spriteY k : Int) - 16)
  decide (0 ≤ r ∧ r < v.spriteHeight)

/-- The selected sprites: the first ten on the line in rising index (R575). -/
def Lcd.selectedSprites (v : Lcd) (y : Nat) : List Nat :=
  ((List.range Config.oamEntries).filter (v.spriteOnLine y)).take Config.maxSpritesPerLine

/-- Sprite `j` comes before sprite `k` in priority: the key `(X, index)` is smaller (R576). -/
def Lcd.spriteBefore (v : Lcd) (j k : Nat) : Bool :=
  decide (v.spriteX j < v.spriteX k) || (decide (v.spriteX j = v.spriteX k) && decide (j < k))

/-- Puts a sprite in its place in a list in order of priority (R576). -/
def Lcd.insertSprite (v : Lcd) (k : Nat) : List Nat → List Nat
  | [] => [k]
  | j :: rest => if v.spriteBefore j k then j :: v.insertSprite k rest else k :: j :: rest

/-- The selected sprites in order of priority, highest first (R576). -/
def Lcd.spritesByPriority (v : Lcd) (y : Nat) : List Nat :=
  (v.selectedSprites y).foldr v.insertSprite []

/-- The row of the sprite that line `y` shows, after a vertical flip (R577). -/
def Lcd.spriteRow (v : Lcd) (k y : Nat) : Nat :=
  let r := y + 16 - v.spriteY k
  if (v.spriteAttr k).getLsbD 6 then v.spriteHeight - 1 - r else r

/-- The tile of a sprite's row: of an adjacent pair for 16-pixel sprites (R577). -/
def Lcd.spriteRowTile (v : Lcd) (k r : Nat) : Byte :=
  if v.objSize then
    if r < 8 then v.spriteTile k &&& 0xFE else v.spriteTile k ||| 0x01
  else v.spriteTile k

/-- The pixel of screen column `x` for sprite column `i = x + 8 - X_k` (R577). -/
def spritePixel (attr lo hi : Byte) (i : Nat) : Pixel :=
  tilePixel lo hi (if attr.getLsbD 5 then i else 7 - i)

/-- `SpriteLine(k, y)` (R577). -/
def Lcd.spriteLine (v : Lcd) (k y : Nat) : Line :=
  let r := v.spriteRow k y
  let base := 0x8000 + 16 * (v.spriteRowTile k r).toNat + 2 * (r % 8)
  let lo := v.vramAt base
  let hi := v.vramAt (base + 1)
  let ln : Line := (List.range Config.screenWidth).map fun x =>
    if v.spriteX k ≤ x + 8 ∧ x + 8 < v.spriteX k + 8 then
      spritePixel (v.spriteAttr k) lo hi (x + 8 - v.spriteX k)
    else Pixel.clear
  ln.mapColors (if (v.spriteAttr k).getLsbD 4 then v.obp1 else v.obp0)

/-- A group of sprites, given highest priority first, drawn from the lowest priority to the highest
(R578). -/
def Lcd.groupLine (v : Lcd) (y : Nat) (group : List Nat) : Line :=
  group.foldr (fun k line => Line.over line (v.spriteLine k y)) (emptyLine Config.screenWidth)

/-- `SpriteGroups(y)`: the below-group and the above-group (R578). -/
def Lcd.spriteGroups (v : Lcd) (y : Nat) : Line × Line :=
  let order := v.spritesByPriority y
  (v.groupLine y (order.filter fun k => (v.spriteAttr k).getLsbD 7),
   v.groupLine y (order.filter fun k => !(v.spriteAttr k).getLsbD 7))

/-- `Composite(bg, below, above)` (R579). -/
def composite (bg below above : Line) : Line :=
  let mask := List.zipWith (fun (p q : Pixel) => p.opa && !q.opa) below bg
  Line.over (Line.overWhere bg below mask) above

/-- The background with the window joined onto it (R570, R572, R573). -/
def Lcd.backgroundAndWindow (v : Lcd) (y : Nat) : Line :=
  let bg := if v.bgEnable then v.backgroundLine y else emptyLine Config.screenWidth
  if v.windowDrawn y then Line.join bg v.windowLine v.windowX else bg

/-- `RenderLine(y)`, the line (R570); the step of WLINE is `Lcd.wlineAfter`. -/
def Lcd.renderLine (v : Lcd) (y : Nat) : Line :=
  let groups := if v.objEnable then v.spriteGroups y
    else (emptyLine Config.screenWidth, emptyLine Config.screenWidth)
  composite (v.backgroundAndWindow y) groups.1 groups.2

/-- WLINE after `RenderLine(y)`: it rises by 1 when the window was drawn (R570, R573). -/
def Lcd.wlineAfter (v : Lcd) (y : Nat) : Byte := if v.windowDrawn y then v.wline + 1 else v.wline

end Sys2Proof.Machine
end

