-- ==== Sys2Proof/Machine/Lcd.lean ====
section
/-! DEFINITION. The LCD controller's registers and mode state machine (60_exceptions.md section 4).
The tick being processed is `s.cycle` (R65). -/

namespace Sys2Proof.Machine

/-- STAT with LYC_EQ_LY, bit 2, set to `eq` (R47). -/
def statWithMatch (stat : Byte) (eq : Bool) : Byte :=
  (stat &&& 0xFB) ||| (if eq then 0x04 else 0x00)

/-- STAT with MODE, bits 1..0, set to `m` (R47). -/
def statWithMode (stat : Byte) (m : BitVec 2) : Byte := (stat &&& 0xFC) ||| m.setWidth 8

/-- The mode STAT shows in a phase (R56). -/
def Phase.mode : Phase → BitVec 2
  | .off => 0
  | .starting => 0
  | .mode2 => 2
  | .mode3 => 3
  | .mode0 => 0
  | .mode1 => 1

/-- `Compare()` (R556). -/
def State.compareLine (s : State) : State :=
  let eq := s.lcd.ly == s.lcd.lyc
  let s' := { s with lcd := { s.lcd with stat := statWithMatch s.lcd.stat eq } }
  if eq && s.lcd.stat.getLsbD 6 then s'.raise .lcdStat else s'

/-- `SetLY(v)` (R564). -/
def State.setLine (s : State) (v : Byte) : State :=
  { s with lcd := { s.lcd with ly := v } }.compareLine

/-- `EnterMode(m)` (R557). -/
def State.enterMode (s : State) (m : BitVec 2) : State :=
  let s1 := { s with lcd := { s.lcd with stat := statWithMode s.lcd.stat m } }
  let s2 := if m ≠ 3 ∧ s.lcd.stat.getLsbD (3 + m.toNat) = true then s1.raise .lcdStat else s1
  if m = 1 then s2.raise .vblank else s2

/-- The phase becomes `p` (R56). -/
def State.setPhase (s : State) (p : Phase) : State := { s with lcd := { s.lcd with phase := p } }

/-- L <- T + n (R56). -/
def State.scheduleLcd (s : State) (n : Nat) : State :=
  { s with lcd := { s.lcd with next := some (s.cycle + n) } }

/-- `BeginFrame()` (R568). -/
def State.beginFrame (s : State) : State :=
  { s with lcd := { s.lcd with frameBuf := some [], wline := 0 } }

/-- `PublishFrame()` (R580). With no frame being built, which no run reaches, nothing is
published. -/
def State.publishFrame (s : State) : State :=
  match s.lcd.frameBuf with
  | some lines => { s with lcd := { s.lcd with
      curImage := lines.map Line.colors, frameBuf := none } }
  | none => s

/-- `EnterLine(l, T)` (R563). -/
def State.enterLine (s : State) (l : Byte) : State :=
  let s1 := if l = 0 then s.beginFrame else s
  (((s1.setLine l).setPhase .mode2).enterMode 2).scheduleLcd Config.mode2Cycles

/-- The line `LY` rendered and added to the frame being built, with the step of WLINE (R566,
R570). -/
def State.appendLine (s : State) : State :=
  let y := s.lcd.ly.toNat
  { s with lcd := { s.lcd with
      frameBuf := s.lcd.frameBuf.map fun lines => lines ++ [s.lcd.renderLine y]
      wline := s.lcd.wlineAfter y } }

/-- `EndMode2(T)` (R566). -/
def State.endMode2 (s : State) : State :=
  (((s.setPhase .mode3).enterMode 3).appendLine).scheduleLcd Config.mode3Cycles

/-- `EndMode3(T)` (R567). -/
def State.endMode3 (s : State) : State :=
  ((s.setPhase .mode0).enterMode 0).scheduleLcd Config.mode0Cycles

/-- `EndMode0(T)` (R569). -/
def State.endMode0 (s : State) : State :=
  if s.lcd.ly.toNat < 143 then s.enterLine (s.lcd.ly + 1)
  else ((((s.setPhase .mode1).setLine 144).enterMode 1).publishFrame).scheduleLcd Config.lineCycles

/-- `StepMode1(T)` (R565). -/
def State.stepMode1 (s : State) : State :=
  if s.lcd.ly.toNat < 153 then (s.setLine (s.lcd.ly + 1)).scheduleLcd Config.lineCycles
  else s.enterLine 0

/-- The mode step of `LcdStep(T)`, taken when L = T (R558). -/
def modeStep (s : State) : State :=
  if s.lcd.next = some s.cycle then
    match s.lcd.phase with
    | .off => s
    | .starting => s.enterLine 0
    | .mode2 => s.endMode2
    | .mode3 => s.endMode3
    | .mode0 => s.endMode0
    | .mode1 => s.stepMode1
  else s

/-- A bus write of LCDC: power-on, power-off or a plain store (R551, R552). -/
def State.writeLcdc (s : State) (v : Byte) : State :=
  let stored := { s with lcd := { s.lcd with lcdc := v } }
  if v.getLsbD 7 = true ∧ s.lcd.phase = .off then
    (stored.setPhase .starting).scheduleLcd Config.lcdOnDelay
  else if v.getLsbD 7 = false ∧ s.lcd.phase ≠ .off then
    { stored with lcd := { stored.lcd with
        phase := .off, next := none, stat := statWithMode s.lcd.stat 0, frameBuf := none } }.setLine 0
  else stored

/-- A bus write of DMA starts a copy (R559). -/
def State.startDma (s : State) (v : Byte) : State :=
  { s with lcd := { s.lcd with dma := v, dmaSrc := v, dmaIdx := 0, dmaActive := true } }

/-- The LCD controller's answer to a bus read (R81, R550). -/
def lcdRead (s : State) (a : Nat) : Option Byte :=
  if 0x8000 ≤ a ∧ a < 0xA000 then some (s.lcd.vram.read (a - 0x8000))
  else if 0xFE00 ≤ a ∧ a < 0xFEA0 then some (s.lcd.oam.read (a - 0xFE00))
  else if a = 0xFF40 then some s.lcd.lcdc
  else if a = 0xFF41 then some s.lcd.stat
  else if a = 0xFF42 then some s.lcd.scy
  else if a = 0xFF43 then some s.lcd.scx
  else if a = 0xFF44 then some s.lcd.ly
  else if a = 0xFF45 then some s.lcd.lyc
  else if a = 0xFF46 then some s.lcd.dma
  else if a = 0xFF47 then some s.lcd.bgp
  else if a = 0xFF48 then some s.lcd.obp0
  else if a = 0xFF49 then some s.lcd.obp1
  else if a = 0xFF4A then some s.lcd.wy
  else if a = 0xFF4B then some s.lcd.wx
  else none

/-- The LCD controller's part in a bus write (R81, R551 to R555, R559). -/
def lcdWrite (s : State) (a : Nat) (v : Byte) : State :=
  if 0x8000 ≤ a ∧ a < 0xA000 then
    { s with lcd := { s.lcd with vram := s.lcd.vram.write (a - 0x8000) v } }
  else if 0xFE00 ≤ a ∧ a < 0xFEA0 then
    { s with lcd := { s.lcd with oam := s.lcd.oam.write (a - 0xFE00) v } }
  else if a = 0xFF40 then s.writeLcdc v
  else if a = 0xFF41 then
    { s with lcd := { s.lcd with stat := (v &&& 0xF8) ||| (s.lcd.stat &&& 0x07) } }
  else if a = 0xFF42 then { s with lcd := { s.lcd with scy := v } }
  else if a = 0xFF43 then { s with lcd := { s.lcd with scx := v } }
  else if a = 0xFF44 then s
  else if a = 0xFF45 then { s with lcd := { s.lcd with lyc := v } }.compareLine
  else if a = 0xFF46 then s.startDma v
  else if a = 0xFF47 then { s with lcd := { s.lcd with bgp := v } }
  else if a = 0xFF48 then { s with lcd := { s.lcd with obp0 := v } }
  else if a = 0xFF49 then { s with lcd := { s.lcd with obp1 := v } }
  else if a = 0xFF4A then { s with lcd := { s.lcd with wy := v } }
  else if a = 0xFF4B then { s with lcd := { s.lcd with wx := v } }
  else s

end Sys2Proof.Machine
end

