-- ==== Sys2Proof/Machine/Timer.lean ====
section
/-! DEFINITION. The timer (60_exceptions.md section 3). -/

namespace Sys2Proof.Machine

/-- `tap(TAC[1:0])`: the tapped bit of DIVC (R45, R531). -/
def Timer.tap (t : Timer) : Nat :=
  match t.tac.toNat % 4 with
  | 0 => 9
  | 1 => 3
  | 2 => 5
  | _ => 7

/-- `TimerState()`: TAC[2] AND the tapped bit of DIVC (R531). -/
def Timer.signal (t : Timer) : Bool := t.tac.getLsbD 2 && t.divc.getLsbD t.tap

/-- `IncIfFalling(s0)`: TIMA rises on a falling edge of TimerState; on overflow it is reloaded from
TMA and TIMER is requested (R532). -/
def State.incIfFalling (s : State) (before : Bool) : State :=
  if before && !s.timer.signal then
    if s.timer.tima = 0xFF then
      { s with timer := { s.timer with tima := s.timer.tma } }.raise .timer
    else { s with timer := { s.timer with tima := s.timer.tima + 1 } }
  else s

/-- `TimerStep(T)` (R530). -/
def timerStep (s : State) : State :=
  { s with timer := { s.timer with divc := s.timer.divc + Config.timerIncrement } }.incIfFalling
    s.timer.signal

/-- The timer's answer to a bus read (R80, R533). -/
def timerRead (s : State) (a : Nat) : Option Byte :=
  if a = 0xFF04 then some (hiByte s.timer.divc)
  else if a = 0xFF05 then some s.timer.tima
  else if a = 0xFF06 then some s.timer.tma
  else if a = 0xFF07 then some s.timer.tac
  else none

/-- The timer's part in a bus write (R80, R534 to R537). -/
def timerWrite (s : State) (a : Nat) (v : Byte) : State :=
  if a = 0xFF04 then
    { s with timer := { s.timer with divc := 0 } }.incIfFalling s.timer.signal
  else if a = 0xFF05 then { s with timer := { s.timer with tima := v } }
  else if a = 0xFF06 then { s with timer := { s.timer with tma := v } }
  else if a = 0xFF07 then
    { s with timer := { s.timer with tac := v } }.incIfFalling s.timer.signal
  else s

end Sys2Proof.Machine
end

