-- ==== Sys2Proof/Machine/Ops.lean ====
section
/-! DEFINITION. The named operations over registers and memory: the register file (10_state.md
R30 to R34), the bus (20_memory.md), the stack (R200, R201), the interrupt service and return
(R514, R515), the fatal fault (R518) and the end of an instruction (R135, R136). -/

namespace Sys2Proof.Machine

/-! ### Registers -/

/-- `R[r]` (R11). -/
def Cpu.reg (u : Cpu) : Reg8 → Byte
  | .b => u.b
  | .c => u.c
  | .d => u.d
  | .e => u.e
  | .h => u.h
  | .l => u.l
  | .a => u.a

/-- `R[r] <- v` (R11). -/
def Cpu.setReg (u : Cpu) (r : Reg8) (v : Byte) : Cpu :=
  match r with
  | .b => { u with b := v }
  | .c => { u with c := v }
  | .d => { u with d := v }
  | .e => { u with e := v }
  | .h => { u with h := v }
  | .l => { u with l := v }
  | .a => { u with a := v }

/-- `R[F] <- v`: bits 3..0 are always stored as 0 (R32). -/
def Cpu.setF (u : Cpu) (v : Byte) : Cpu := { u with f := v &&& 0xF0 }

/-- `F.Z` (R32). -/
def Cpu.flagZ (u : Cpu) : Bool := u.f.getLsbD 7
/-- `F.N` (R32). -/
def Cpu.flagN (u : Cpu) : Bool := u.f.getLsbD 6
/-- `F.H` (R32). -/
def Cpu.flagH (u : Cpu) : Bool := u.f.getLsbD 5
/-- `F.C` (R32). -/
def Cpu.flagC (u : Cpu) : Bool := u.f.getLsbD 4

/-- `RP[HL]` (R31). -/
def Cpu.hl (u : Cpu) : Word := word16 u.h u.l

/-- `RP[HL] <- v` (R31). -/
def Cpu.setHL (u : Cpu) (v : Word) : Cpu := { u with h := hiByte v, l := loByte v }

/-- The register operand of LD rr,n16, INC rr, DEC rr and ADD HL,rr (R31, R124). -/
def Cpu.pair (u : Cpu) : Pair16 → Word
  | .bc => word16 u.b u.c
  | .de => word16 u.d u.e
  | .hl => u.hl
  | .sp => u.sp

/-- The same operand written (R31, R124). -/
def Cpu.setPair (u : Cpu) (p : Pair16) (v : Word) : Cpu :=
  match p with
  | .bc => { u with b := hiByte v, c := loByte v }
  | .de => { u with d := hiByte v, e := loByte v }
  | .hl => u.setHL v
  | .sp => { u with sp := v }

/-- The register operand of PUSH and POP (R31, R124). -/
def Cpu.stackPair (u : Cpu) : StackPair → Word
  | .bc => word16 u.b u.c
  | .de => word16 u.d u.e
  | .hl => u.hl
  | .af => word16 u.a u.f

/-- The same operand written; a write of AF stores `v[7:0] & 0xF0` in F (R11, R124). -/
def Cpu.setStackPair (u : Cpu) (p : StackPair) (v : Word) : Cpu :=
  match p with
  | .bc => { u with b := hiByte v, c := loByte v }
  | .de => { u with d := hiByte v, e := loByte v }
  | .hl => u.setHL v
  | .af => { u with a := hiByte v }.setF (loByte v)

/-- `R[r] <- v` on the whole machine. -/
def State.setReg (s : State) (r : Reg8) (v : Byte) : State := { s with cpu := s.cpu.setReg r v }

/-- `R[F] <- v` on the whole machine. -/
def State.setF (s : State) (v : Byte) : State := { s with cpu := s.cpu.setF v }

/-- `RP[HL] <- v` on the whole machine. -/
def State.setHL (s : State) (v : Word) : State := { s with cpu := s.cpu.setHL v }

/-- `SP <- v`. -/
def State.setSP (s : State) (v : Word) : State := { s with cpu := { s.cpu with sp := v } }

/-- `IME <- v`. -/
def State.setIME (s : State) (v : Bool) : State := { s with cpu := { s.cpu with ime := v } }

/-! ### The bus -/

/-- The CPU's answer to a bus read: IF, high RAM and IE (R75, R520). -/
def cpuRead (s : State) (a : Nat) : Option Byte :=
  if a = 0xFF0F then some (zext5 s.cpu.iflag)
  else if 0xFF80 ≤ a ∧ a < 0xFFFF then some (s.cpu.hram.read (a - 0xFF80))
  else if a = 0xFFFF then some (zext5 s.cpu.ie)
  else none

/-- The CPU's part in a bus write (R75, R521). -/
def cpuWrite (s : State) (a : Nat) (v : Byte) : State :=
  if a = 0xFF0F then { s with cpu := { s.cpu with iflag := low5 v } }
  else if 0xFF80 ≤ a ∧ a < 0xFFFF then
    { s with cpu := { s.cpu with hram := s.cpu.hram.write (a - 0xFF80) v } }
  else if a = 0xFFFF then { s with cpu := { s.cpu with ie := low5 v } }
  else s

/-- Work RAM's answer to a bus read (R76). -/
def wramRead (s : State) (a : Nat) : Option Byte :=
  if 0xC000 ≤ a ∧ a < 0xE000 then some (s.wram.read (a - 0xC000)) else none

/-- Work RAM's part in a bus write (R76). -/
def wramWrite (s : State) (a : Nat) (v : Byte) : State :=
  if 0xC000 ≤ a ∧ a < 0xE000 then { s with wram := s.wram.write (a - 0xC000) v } else s

/-- Echo RAM's answer to a bus read: the same storage at 0xE000..0xFDFF (R76). -/
def echoRead (s : State) (a : Nat) : Option Byte :=
  if 0xE000 ≤ a ∧ a < 0xFE00 then some (s.wram.read (a - 0xE000)) else none

/-- Echo RAM's part in a bus write (R76). -/
def echoWrite (s : State) (a : Nat) (v : Byte) : State :=
  if 0xE000 ≤ a ∧ a < 0xFE00 then { s with wram := s.wram.write (a - 0xE000) v } else s

/-- The answer of the cartridge under the boot-ROM overlay (R77, R79). -/
def romRead (s : State) (a : Nat) : Option Byte :=
  if a < 0x0100 ∧ s.bootEn = true then some (s.bootRom.read a)
  else if a < 0x8000 then some (s.cartridge.read a)
  else none

/-- The part of the cartridge and the overlay in a bus write: the cartridge ignores every write, and
any write to 0xFF50 clears BOOT_EN (R78, R79). -/
def romWrite (s : State) (a : Nat) : State :=
  if a = 0xFF50 then { s with bootEn := false } else s

/-- `MemRead(a, 1)`: the first component in attachment order that answers, or 0xFF (R71, R84). -/
def State.busRead (s : State) (addr : Word) : Byte :=
  let a := addr.toNat
  (cpuRead s a <|> wramRead s a <|> echoRead s a <|> romRead s a <|> timerRead s a <|> lcdRead s a
    <|> joypadRead s a).getD Config.unmappedRead

/-- `MemWrite(a, 1, v)`: the write is offered to every component in attachment order (R72, R84). -/
def State.busWrite (s : State) (addr : Word) (v : Byte) : State :=
  let a := addr.toNat
  let s1 := cpuWrite s a v
  let s2 := wramWrite s1 a v
  let s3 := echoWrite s2 a v
  let s4 := romWrite s3 a
  let s5 := timerWrite s4 a v
  let s6 := lcdWrite s5 a v
  joypadWrite s6 a v

/-- `MemRead(a, 2)`: little-endian, the second address wraps (R12, R85, R86). -/
def State.busRead16 (s : State) (addr : Word) : Word :=
  word16 (s.busRead (addr + 1)) (s.busRead addr)

/-- `MemWrite(a, 2, v)`: the low byte first, then the high byte (R12, R85, R86). -/
def State.busWrite16 (s : State) (addr v : Word) : State :=
  (s.busWrite addr (loByte v)).busWrite (addr + 1) (hiByte v)

/-! ### The stack -/

/-- `Push16(v)` (R200). -/
def State.push16 (s : State) (v : Word) : State :=
  (s.setSP (s.cpu.sp - 2)).busWrite16 (s.cpu.sp - 2) v

/-- The value `Pop16()` returns (R201). -/
def State.top16 (s : State) : Word := s.busRead16 s.cpu.sp

/-- `Pop16()`, its effect on SP (R201). -/
def State.dropped16 (s : State) : State := s.setSP (s.cpu.sp + 2)

/-! ### Ending an instruction, taking an interrupt and raising a fault -/

/-- `nextPC` for an instruction of `len` bytes (R135). -/
def State.nextPC (s : State) (len : Nat) : Word := s.cpu.pc + BitVec.ofNat 16 len

/-- The end of an instruction: `PC <- nextPC`, and its cost is charged (R135, R136). -/
def State.retire (s : State) (nextPC : Word) (cycles : Nat) : State :=
  { s with cpu := { s.cpu with pc := nextPC, wake := s.cpu.wake.map (· + cycles) } }

/-- `Service(i)`: taking an interrupt (R514). -/
def service (i : IntSource) (s : State) : State :=
  let s1 := { s with cpu := { s.cpu with ime := false, iflag := s.cpu.iflag &&& ~~~i.mask } }
  (s1.push16 s.cpu.pc).retire i.vector Config.serviceCycles

/-- The return from an interrupt: the address popped, and IME set; nothing else is restored
(R379, R515). -/
def interruptReturn (cycles : Nat) (s : State) : State :=
  (s.dropped16.setIME true).retire s.top16 cycles

/-- `raise Fatal(reason)`: the fault state takes the record; nothing else changes (R518, R519). -/
def State.raiseFatal (s : State) (r : FaultRecord) : State := { s with fault := some r }

end Sys2Proof.Machine
end

