-- ==== Sys2Proof/Machine/Flags.lean ====
section
/-! DEFINITION. The ALU and the flags: every ALU function of 41_alu8.md, 42_alu16.md and
43_bitops.md, the four flag policies and the combination of a result with F (R14, R137, R240). -/

namespace Sys2Proof.Machine

/-- An ALU result `(v, z, n, h, c)` (R240). -/
structure AluResult (w : Nat) where
  v : BitVec w
  z : Bool
  n : Bool
  h : Bool
  c : Bool
  deriving DecidableEq, Repr

/-- The four per-flag policies (R14). -/
inductive Policy where
  | zero | one | alu | keep
  deriving DecidableEq, Repr

/-- The policies of Z, N, H and C of one instruction (R14). -/
structure FlagPolicy where
  z : Policy
  n : Policy
  h : Policy
  c : Policy
  deriving DecidableEq, Repr

/-- The new bit a policy gives (R137). -/
def Policy.choose (p : Policy) (fromAlu current : Bool) : Bool :=
  match p with
  | .zero => false
  | .one => true
  | .alu => fromAlu
  | .keep => current

/-- `Z<<7 | N<<6 | H<<5 | C<<4`, bits 3..0 zero (R137). -/
def packFlags (z n h c : Bool) : Byte :=
  BitVec.ofBool z ++ BitVec.ofBool n ++ BitVec.ofBool h ++ BitVec.ofBool c ++ 0#4

/-- `flags(res)`: the new F (R137, R240). -/
def newF {w : Nat} (p : FlagPolicy) (r : AluResult w) (u : Cpu) : Byte :=
  packFlags (p.z.choose r.z u.flagZ) (p.n.choose r.n u.flagN) (p.h.choose r.h u.flagH)
    (p.c.choose r.c u.flagC)

/-- `F <- flags(res)` (R137). -/
def State.setFlags {w : Nat} (s : State) (p : FlagPolicy) (r : AluResult w) : State :=
  s.setF (newF p r s.cpu)

/-! ### 8-bit functions (41_alu8.md section 1) -/

/-- `add(l, r, c0)` (R241). -/
def alu8Add (l r : Byte) (c0 : Bool) : AluResult 8 :=
  let s := l.toNat + r.toNat + c0.toNat
  let v := BitVec.ofNat 8 s
  { v := v, z := v == 0, n := false
    h := decide (l.toNat % 16 + r.toNat % 16 + c0.toNat > 0xF)
    c := decide (s > 0xFF) }

/-- `sub(l, r, b0)` (R242). -/
def alu8Sub (l r : Byte) (b0 : Bool) : AluResult 8 :=
  let v := BitVec.ofInt 8 ((l.toNat : Int) - r.toNat - b0.toNat)
  { v := v, z := v == 0, n := true
    h := decide (l.toNat % 16 < r.toNat % 16 + b0.toNat)
    c := decide (l.toNat < r.toNat + b0.toNat) }

/-- `and(l, r)` (R243). -/
def alu8And (l r : Byte) : AluResult 8 :=
  { v := l &&& r, z := (l &&& r) == 0, n := false, h := true, c := false }

/-- `or(l, r)` (R244). -/
def alu8Or (l r : Byte) : AluResult 8 :=
  { v := l ||| r, z := (l ||| r) == 0, n := false, h := false, c := false }

/-- `xor(l, r)` (R245). -/
def alu8Xor (l r : Byte) : AluResult 8 :=
  { v := l ^^^ r, z := (l ^^^ r) == 0, n := false, h := false, c := false }

/-- `bcdAdjust(v, n, h, c)` (R247). -/
def bcdAdjust (v : Byte) (n h c : Bool) : AluResult 8 :=
  let fixL := h || (!n && decide (v.toNat % 16 > 9))
  let fixH := c || (!n && decide (v.toNat > 0x99))
  let fix : Byte := (if fixH then 0x60 else 0) ||| (if fixL then 0x06 else 0)
  let va := if n then v - fix else v + fix
  { v := va, z := va == 0, n := n, h := false, c := fixH }

/-- The ALU result of CPL, SCF and CCF: `(v, 0, 0, 0, c)` (R249). -/
def plainResult (v : Byte) (c : Bool) : AluResult 8 :=
  { v := v, z := false, n := false, h := false, c := c }

/-- The eight operations on A: ADC and SBC take F.C as carry-in, CP subtracts (41_alu8.md
section 2). -/
def aluCompute (op : AluOp) (l r : Byte) (carry : Bool) : AluResult 8 :=
  match op with
  | .add => alu8Add l r false
  | .adc => alu8Add l r carry
  | .sub => alu8Sub l r false
  | .sbc => alu8Sub l r carry
  | .and => alu8And l r
  | .xor => alu8Xor l r
  | .or => alu8Or l r
  | .cp => alu8Sub l r false

/-- CP alone does not write A (R271). -/
def aluWritesA : AluOp → Bool
  | .add => true
  | .adc => true
  | .sub => true
  | .sbc => true
  | .and => true
  | .xor => true
  | .or => true
  | .cp => false

/-! ### 16-bit functions (42_alu16.md section 1) -/

/-- `add16L(l, r)` (R300). -/
def add16L (l r : Word) : AluResult 16 :=
  { v := l + r, z := false, n := false
    h := decide (l.toNat % 16 + r.toNat % 16 > 0xF)
    c := decide (l.toNat % 256 + r.toNat % 256 > 0xFF) }

/-- `add16H(l, r)` (R301). -/
def add16H (l r : Word) : AluResult 16 :=
  let c7 := (decide (l.toNat % 256 + r.toNat % 256 > 0xFF)).toNat
  { v := l + r, z := false, n := false
    h := decide (l.toNat / 256 % 16 + r.toNat / 256 % 16 + c7 > 0xF)
    c := decide (l.toNat / 256 + r.toNat / 256 + c7 > 0xFF) }

/-! ### Rotates, shifts and bits (43_bitops.md section 1) -/

/-- The result of a shift or rotate: the value, Z from it, and the bit ejected (43_bitops.md
section 1). -/
def shiftResult (r : Byte) (out : Bool) : AluResult 8 :=
  { v := r, z := r == 0, n := false, h := false, c := out }

/-- `rotate(LEFT, v)` (R320). -/
def rotateLeft (v : Byte) : AluResult 8 :=
  shiftResult ((v <<< 1) ||| (BitVec.ofBool (v.getLsbD 7)).setWidth 8) (v.getLsbD 7)

/-- `rotate(RIGHT, v)` (R320). -/
def rotateRight (v : Byte) : AluResult 8 :=
  shiftResult ((v >>> 1) ||| ((BitVec.ofBool (v.getLsbD 0)).setWidth 8 <<< 7)) (v.getLsbD 0)

/-- `rotate(LEFT, v, cin)` (R321). -/
def rotateLeftThrough (v : Byte) (cin : Bool) : AluResult 8 :=
  shiftResult ((v <<< 1) ||| (BitVec.ofBool cin).setWidth 8) (v.getLsbD 7)

/-- `rotate(RIGHT, v, cin)` (R321). -/
def rotateRightThrough (v : Byte) (cin : Bool) : AluResult 8 :=
  shiftResult ((v >>> 1) ||| ((BitVec.ofBool cin).setWidth 8 <<< 7)) (v.getLsbD 0)

/-- `shiftLeft(v)` (R322). -/
def shiftLeft (v : Byte) : AluResult 8 := shiftResult (v <<< 1) (v.getLsbD 7)

/-- `shiftRightArithmetic(v)` (R323). -/
def shiftRightArithmetic (v : Byte) : AluResult 8 :=
  shiftResult ((v >>> 1) ||| (v &&& 0x80)) (v.getLsbD 0)

/-- `shiftRightLogical(v)` (R324). -/
def shiftRightLogical (v : Byte) : AluResult 8 := shiftResult (v >>> 1) (v.getLsbD 0)

/-- `swap(v)` (R325). -/
def swapNibbles (v : Byte) : AluResult 8 :=
  shiftResult (v.extractLsb' 0 4 ++ v.extractLsb' 4 4) false

/-- `testBit(v, b)` (R326). -/
def testBit (v : Byte) (b : Nat) : AluResult 8 :=
  { v := 0, z := !v.getLsbD b, n := false, h := true, c := false }

/-- `setBit(v, b)` (R327). -/
def setBit (v : Byte) (b : Nat) : Byte := v ||| (1#8 <<< b)

/-- `resetBit(v, b)` (R327). -/
def resetBit (v : Byte) (b : Nat) : Byte := v &&& ~~~(1#8 <<< b)

/-- The eight operations of the prefixed page's first quarter; RL and RR take F.C as carry-in (R129,
R334 to R349). -/
def rotCompute (op : RotOp) (v : Byte) (carry : Bool) : AluResult 8 :=
  match op with
  | .rlc => rotateLeft v
  | .rrc => rotateRight v
  | .rl => rotateLeftThrough v carry
  | .rr => rotateRightThrough v carry
  | .sla => shiftLeft v
  | .sra => shiftRightArithmetic v
  | .swap => swapNibbles v
  | .srl => shiftRightLogical v

/-! ### The policies the instructions use (R141) -/

/-- The eight operations on A write all four flags from the ALU (R250 to R273). -/
def policyAlu : FlagPolicy := { z := .alu, n := .alu, h := .alu, c := .alu }
/-- INC r and INC (HL) (R274, R275). -/
def policyInc : FlagPolicy := { z := .alu, n := .zero, h := .alu, c := .keep }
/-- DEC r and DEC (HL) (R276, R277). -/
def policyDec : FlagPolicy := { z := .alu, n := .one, h := .alu, c := .keep }
/-- DAA (R278). -/
def policyDaa : FlagPolicy := { z := .alu, n := .keep, h := .zero, c := .alu }
/-- CPL (R279). -/
def policyCpl : FlagPolicy := { z := .keep, n := .one, h := .one, c := .keep }
/-- SCF (R280). -/
def policyScf : FlagPolicy := { z := .keep, n := .zero, h := .zero, c := .one }
/-- CCF (R281). -/
def policyCcf : FlagPolicy := { z := .keep, n := .zero, h := .zero, c := .alu }
/-- ADD HL,rr (R304). -/
def policyAddHL : FlagPolicy := { z := .keep, n := .zero, h := .alu, c := .alu }
/-- ADD SP,e8 and LD HL,SP+e8 (R305, R306). -/
def policyAddSP : FlagPolicy := { z := .zero, n := .zero, h := .alu, c := .alu }
/-- RLCA, RRCA, RLA and RRA (R330 to R333). -/
def policyRotA : FlagPolicy := { z := .zero, n := .zero, h := .zero, c := .alu }
/-- The prefixed rotates, shifts and SWAP (R334 to R349). -/
def policyRot : FlagPolicy := { z := .alu, n := .zero, h := .zero, c := .alu }
/-- BIT (R350, R351). -/
def policyBit : FlagPolicy := { z := .alu, n := .zero, h := .one, c := .keep }

end Sys2Proof.Machine
end

