-- ==== Sys2Proof/Machine/Operands.lean ====
section
/-! DEFINITION. The operand forms (30_encoding.md section 2): a source byte, a byte that is read,
changed and written back, the high page, and the conditions. -/

namespace Sys2Proof.Machine

/-- A source byte: a register, an immediate or the byte at address HL (R123, R128). -/
inductive Src8 where
  | reg (r : Reg8)
  | imm (n : Byte)
  | atHL
  deriving DecidableEq, Repr

/-- The value of a source byte. -/
def Src8.read (o : Src8) (s : State) : Byte :=
  match o with
  | .reg r => s.cpu.reg r
  | .imm n => n
  | .atHL => s.busRead s.cpu.hl

/-- A byte that an instruction reads and writes back: a register or the byte at address HL
(R123). -/
inductive Rmw8 where
  | reg (r : Reg8)
  | atHL
  deriving DecidableEq, Repr

/-- The operand read. -/
def Rmw8.read (o : Rmw8) (s : State) : Byte :=
  match o with
  | .reg r => s.cpu.reg r
  | .atHL => s.busRead s.cpu.hl

/-- The operand written. -/
def Rmw8.write (o : Rmw8) (v : Byte) (s : State) : State :=
  match o with
  | .reg r => s.setReg r v
  | .atHL => s.busWrite s.cpu.hl v

/-- `0xFF00 + n`, the high-page address (R128). -/
def highPage (n : Byte) : Word := 0xFF00 + zext16 n

/-- `cond(cc)`, read from F (R125). -/
def condHolds (cc : Cond) (u : Cpu) : Bool :=
  match cc with
  | .nz => !u.flagZ
  | .z => u.flagZ
  | .nc => !u.flagC
  | .c => u.flagC

end Sys2Proof.Machine
end

