-- ==== Sys2Proof/Machine/Alu16.lean ====
section
/-! DEFINITION. 16-bit arithmetic (42_alu16.md): the shared forms, then one meaning for each row. -/

namespace Sys2Proof.Machine

/-- INC rr and DEC rr: the operand moves by `delta` (R302, R303). -/
def stepPair (p : Pair16) (delta : Word) (s : State) : Result State :=
  .next (State.retire { s with cpu := s.cpu.setPair p (s.cpu.pair p + delta) } (s.nextPC 1) 2)

/-- ADD HL,rr (R304). -/
def addToHL (p : Pair16) (s : State) : Result State :=
  let r := add16H s.cpu.hl (s.cpu.pair p)
  .next (((s.setHL r.v).setFlags policyAddHL r).retire (s.nextPC 1) 2)

/-- ADD SP,e8 (R305). -/
def addToSP (e : Byte) (s : State) : Result State :=
  let r := add16L s.cpu.sp (sext16 e)
  .next (((s.setSP r.v).setFlags policyAddSP r).retire (s.nextPC 2) 4)

/-- LD HL,SP+e8 (R306). -/
def ldHLFromSP (e : Byte) (s : State) : Result State :=
  let r := add16L s.cpu.sp (sext16 e)
  .next (((s.setHL r.v).setFlags policyAddSP r).retire (s.nextPC 2) 3)

/-- INC BC (R302). -/
def exec_inc_bc (s : State) : Result State := stepPair .bc 1 s

/-- ADD HL,BC (R304). -/
def exec_add_hl_bc (s : State) : Result State := addToHL .bc s

/-- DEC BC (R303). -/
def exec_dec_bc (s : State) : Result State := stepPair .bc (-1) s

/-- INC DE (R302). -/
def exec_inc_de (s : State) : Result State := stepPair .de 1 s

/-- ADD HL,DE (R304). -/
def exec_add_hl_de (s : State) : Result State := addToHL .de s

/-- DEC DE (R303). -/
def exec_dec_de (s : State) : Result State := stepPair .de (-1) s

/-- INC HL (R302). -/
def exec_inc_hl (s : State) : Result State := stepPair .hl 1 s

/-- ADD HL,HL (R304). -/
def exec_add_hl_hl (s : State) : Result State := addToHL .hl s

/-- DEC HL (R303). -/
def exec_dec_hl (s : State) : Result State := stepPair .hl (-1) s

/-- INC SP (R302). -/
def exec_inc_sp (s : State) : Result State := stepPair .sp 1 s

/-- ADD HL,SP (R304). -/
def exec_add_hl_sp (s : State) : Result State := addToHL .sp s

/-- DEC SP (R303). -/
def exec_dec_sp (s : State) : Result State := stepPair .sp (-1) s

/-- ADD SP,e8 (R305). -/
def exec_add_sp_e8 (e : Byte) (s : State) : Result State := addToSP e s

/-- LD HL,SP+e8 (R306). -/
def exec_ld_hl_sp_e8 (e : Byte) (s : State) : Result State := ldHLFromSP e s

end Sys2Proof.Machine
end

