-- ==== Sys2Proof/Machine/Alu8.lean ====
section
/-! DEFINITION. 8-bit arithmetic and logic (41_alu8.md): the shared forms, then one meaning for each
row. The numbers a meaning gives are its row's length and cost (R141). -/

namespace Sys2Proof.Machine

/-- One of the eight operations on A (R250 to R273). -/
def aluA (op : AluOp) (src : Src8) (len cycles : Nat) (s : State) : Result State :=
  let r := aluCompute op s.cpu.a (src.read s) s.cpu.flagC
  let t := if aluWritesA op then s.setReg .a r.v else s
  .next ((t.setFlags policyAlu r).retire (s.nextPC len) cycles)

/-- INC of a register or of (HL) (R274, R275). -/
def incByte (o : Rmw8) (cycles : Nat) (s : State) : Result State :=
  let r := alu8Add (o.read s) 1 false
  .next (((o.write r.v s).setFlags policyInc r).retire (s.nextPC 1) cycles)

/-- DEC of a register or of (HL) (R276, R277). -/
def decByte (o : Rmw8) (cycles : Nat) (s : State) : Result State :=
  let r := alu8Sub (o.read s) 1 false
  .next (((o.write r.v s).setFlags policyDec r).retire (s.nextPC 1) cycles)

/-- DAA (R278). -/
def adjustA (s : State) : Result State :=
  let r := bcdAdjust s.cpu.a s.cpu.flagN s.cpu.flagH s.cpu.flagC
  .next (((s.setReg .a r.v).setFlags policyDaa r).retire (s.nextPC 1) 1)

/-- CPL (R279). -/
def complementA (s : State) : Result State :=
  let r := plainResult (~~~s.cpu.a) false
  .next (((s.setReg .a r.v).setFlags policyCpl r).retire (s.nextPC 1) 1)

/-- SCF (R280). -/
def setCarry (s : State) : Result State :=
  .next ((s.setFlags policyScf (plainResult 0 true)).retire (s.nextPC 1) 1)

/-- CCF (R281). -/
def complementCarry (s : State) : Result State :=
  .next ((s.setFlags policyCcf (plainResult 0 (!s.cpu.flagC))).retire (s.nextPC 1) 1)

/-- INC B (R274). -/
def exec_inc_b (s : State) : Result State := incByte (.reg .b) 1 s

/-- DEC B (R276). -/
def exec_dec_b (s : State) : Result State := decByte (.reg .b) 1 s

/-- INC C (R274). -/
def exec_inc_c (s : State) : Result State := incByte (.reg .c) 1 s

/-- DEC C (R276). -/
def exec_dec_c (s : State) : Result State := decByte (.reg .c) 1 s

/-- INC D (R274). -/
def exec_inc_d (s : State) : Result State := incByte (.reg .d) 1 s

/-- DEC D (R276). -/
def exec_dec_d (s : State) : Result State := decByte (.reg .d) 1 s

/-- INC E (R274). -/
def exec_inc_e (s : State) : Result State := incByte (.reg .e) 1 s

/-- DEC E (R276). -/
def exec_dec_e (s : State) : Result State := decByte (.reg .e) 1 s

/-- INC H (R274). -/
def exec_inc_h (s : State) : Result State := incByte (.reg .h) 1 s

/-- DEC H (R276). -/
def exec_dec_h (s : State) : Result State := decByte (.reg .h) 1 s

/-- DAA (R278). -/
def exec_daa (s : State) : Result State := adjustA s

/-- INC L (R274). -/
def exec_inc_l (s : State) : Result State := incByte (.reg .l) 1 s

/-- DEC L (R276). -/
def exec_dec_l (s : State) : Result State := decByte (.reg .l) 1 s

/-- CPL (R279). -/
def exec_cpl (s : State) : Result State := complementA s

/-- INC (HL) (R275). -/
def exec_inc_atHL (s : State) : Result State := incByte .atHL 3 s

/-- DEC (HL) (R277). -/
def exec_dec_atHL (s : State) : Result State := decByte .atHL 3 s

/-- SCF (R280). -/
def exec_scf (s : State) : Result State := setCarry s

/-- INC A (R274). -/
def exec_inc_a (s : State) : Result State := incByte (.reg .a) 1 s

/-- DEC A (R276). -/
def exec_dec_a (s : State) : Result State := decByte (.reg .a) 1 s

/-- CCF (R281). -/
def exec_ccf (s : State) : Result State := complementCarry s

/-- ADD A,B (R250). -/
def exec_add_a_b (s : State) : Result State := aluA .add (.reg .b) 1 1 s

/-- ADD A,C (R250). -/
def exec_add_a_c (s : State) : Result State := aluA .add (.reg .c) 1 1 s

/-- ADD A,D (R250). -/
def exec_add_a_d (s : State) : Result State := aluA .add (.reg .d) 1 1 s

/-- ADD A,E (R250). -/
def exec_add_a_e (s : State) : Result State := aluA .add (.reg .e) 1 1 s

/-- ADD A,H (R250). -/
def exec_add_a_h (s : State) : Result State := aluA .add (.reg .h) 1 1 s

/-- ADD A,L (R250). -/
def exec_add_a_l (s : State) : Result State := aluA .add (.reg .l) 1 1 s

/-- ADD A,(HL) (R252). -/
def exec_add_a_atHL (s : State) : Result State := aluA .add .atHL 1 2 s

/-- ADD A,A (R250). -/
def exec_add_a_a (s : State) : Result State := aluA .add (.reg .a) 1 1 s

/-- ADC A,B (R253). -/
def exec_adc_a_b (s : State) : Result State := aluA .adc (.reg .b) 1 1 s

/-- ADC A,C (R253). -/
def exec_adc_a_c (s : State) : Result State := aluA .adc (.reg .c) 1 1 s

/-- ADC A,D (R253). -/
def exec_adc_a_d (s : State) : Result State := aluA .adc (.reg .d) 1 1 s

/-- ADC A,E (R253). -/
def exec_adc_a_e (s : State) : Result State := aluA .adc (.reg .e) 1 1 s

/-- ADC A,H (R253). -/
def exec_adc_a_h (s : State) : Result State := aluA .adc (.reg .h) 1 1 s

/-- ADC A,L (R253). -/
def exec_adc_a_l (s : State) : Result State := aluA .adc (.reg .l) 1 1 s

/-- ADC A,(HL) (R255). -/
def exec_adc_a_atHL (s : State) : Result State := aluA .adc .atHL 1 2 s

/-- ADC A,A (R253). -/
def exec_adc_a_a (s : State) : Result State := aluA .adc (.reg .a) 1 1 s

/-- SUB A,B (R256). -/
def exec_sub_a_b (s : State) : Result State := aluA .sub (.reg .b) 1 1 s

/-- SUB A,C (R256). -/
def exec_sub_a_c (s : State) : Result State := aluA .sub (.reg .c) 1 1 s

/-- SUB A,D (R256). -/
def exec_sub_a_d (s : State) : Result State := aluA .sub (.reg .d) 1 1 s

/-- SUB A,E (R256). -/
def exec_sub_a_e (s : State) : Result State := aluA .sub (.reg .e) 1 1 s

/-- SUB A,H (R256). -/
def exec_sub_a_h (s : State) : Result State := aluA .sub (.reg .h) 1 1 s

/-- SUB A,L (R256). -/
def exec_sub_a_l (s : State) : Result State := aluA .sub (.reg .l) 1 1 s

/-- SUB A,(HL) (R258). -/
def exec_sub_a_atHL (s : State) : Result State := aluA .sub .atHL 1 2 s

/-- SUB A,A (R256). -/
def exec_sub_a_a (s : State) : Result State := aluA .sub (.reg .a) 1 1 s

/-- SBC A,B (R259). -/
def exec_sbc_a_b (s : State) : Result State := aluA .sbc (.reg .b) 1 1 s

/-- SBC A,C (R259). -/
def exec_sbc_a_c (s : State) : Result State := aluA .sbc (.reg .c) 1 1 s

/-- SBC A,D (R259). -/
def exec_sbc_a_d (s : State) : Result State := aluA .sbc (.reg .d) 1 1 s

/-- SBC A,E (R259). -/
def exec_sbc_a_e (s : State) : Result State := aluA .sbc (.reg .e) 1 1 s

/-- SBC A,H (R259). -/
def exec_sbc_a_h (s : State) : Result State := aluA .sbc (.reg .h) 1 1 s

/-- SBC A,L (R259). -/
def exec_sbc_a_l (s : State) : Result State := aluA .sbc (.reg .l) 1 1 s

/-- SBC A,(HL) (R261). -/
def exec_sbc_a_atHL (s : State) : Result State := aluA .sbc .atHL 1 2 s

/-- SBC A,A (R259). -/
def exec_sbc_a_a (s : State) : Result State := aluA .sbc (.reg .a) 1 1 s

/-- AND A,B (R262). -/
def exec_and_a_b (s : State) : Result State := aluA .and (.reg .b) 1 1 s

/-- AND A,C (R262). -/
def exec_and_a_c (s : State) : Result State := aluA .and (.reg .c) 1 1 s

/-- AND A,D (R262). -/
def exec_and_a_d (s : State) : Result State := aluA .and (.reg .d) 1 1 s

/-- AND A,E (R262). -/
def exec_and_a_e (s : State) : Result State := aluA .and (.reg .e) 1 1 s

/-- AND A,H (R262). -/
def exec_and_a_h (s : State) : Result State := aluA .and (.reg .h) 1 1 s

/-- AND A,L (R262). -/
def exec_and_a_l (s : State) : Result State := aluA .and (.reg .l) 1 1 s

/-- AND A,(HL) (R264). -/
def exec_and_a_atHL (s : State) : Result State := aluA .and .atHL 1 2 s

/-- AND A,A (R262). -/
def exec_and_a_a (s : State) : Result State := aluA .and (.reg .a) 1 1 s

/-- XOR A,B (R265). -/
def exec_xor_a_b (s : State) : Result State := aluA .xor (.reg .b) 1 1 s

/-- XOR A,C (R265). -/
def exec_xor_a_c (s : State) : Result State := aluA .xor (.reg .c) 1 1 s

/-- XOR A,D (R265). -/
def exec_xor_a_d (s : State) : Result State := aluA .xor (.reg .d) 1 1 s

/-- XOR A,E (R265). -/
def exec_xor_a_e (s : State) : Result State := aluA .xor (.reg .e) 1 1 s

/-- XOR A,H (R265). -/
def exec_xor_a_h (s : State) : Result State := aluA .xor (.reg .h) 1 1 s

/-- XOR A,L (R265). -/
def exec_xor_a_l (s : State) : Result State := aluA .xor (.reg .l) 1 1 s

/-- XOR A,(HL) (R267). -/
def exec_xor_a_atHL (s : State) : Result State := aluA .xor .atHL 1 2 s

/-- XOR A,A (R265). -/
def exec_xor_a_a (s : State) : Result State := aluA .xor (.reg .a) 1 1 s

/-- OR A,B (R268). -/
def exec_or_a_b (s : State) : Result State := aluA .or (.reg .b) 1 1 s

/-- OR A,C (R268). -/
def exec_or_a_c (s : State) : Result State := aluA .or (.reg .c) 1 1 s

/-- OR A,D (R268). -/
def exec_or_a_d (s : State) : Result State := aluA .or (.reg .d) 1 1 s

/-- OR A,E (R268). -/
def exec_or_a_e (s : State) : Result State := aluA .or (.reg .e) 1 1 s

/-- OR A,H (R268). -/
def exec_or_a_h (s : State) : Result State := aluA .or (.reg .h) 1 1 s

/-- OR A,L (R268). -/
def exec_or_a_l (s : State) : Result State := aluA .or (.reg .l) 1 1 s

/-- OR A,(HL) (R270). -/
def exec_or_a_atHL (s : State) : Result State := aluA .or .atHL 1 2 s

/-- OR A,A (R268). -/
def exec_or_a_a (s : State) : Result State := aluA .or (.reg .a) 1 1 s

/-- CP A,B (R271). -/
def exec_cp_a_b (s : State) : Result State := aluA .cp (.reg .b) 1 1 s

/-- CP A,C (R271). -/
def exec_cp_a_c (s : State) : Result State := aluA .cp (.reg .c) 1 1 s

/-- CP A,D (R271). -/
def exec_cp_a_d (s : State) : Result State := aluA .cp (.reg .d) 1 1 s

/-- CP A,E (R271). -/
def exec_cp_a_e (s : State) : Result State := aluA .cp (.reg .e) 1 1 s

/-- CP A,H (R271). -/
def exec_cp_a_h (s : State) : Result State := aluA .cp (.reg .h) 1 1 s

/-- CP A,L (R271). -/
def exec_cp_a_l (s : State) : Result State := aluA .cp (.reg .l) 1 1 s

/-- CP A,(HL) (R273). -/
def exec_cp_a_atHL (s : State) : Result State := aluA .cp .atHL 1 2 s

/-- CP A,A (R271). -/
def exec_cp_a_a (s : State) : Result State := aluA .cp (.reg .a) 1 1 s

/-- ADD A,n8 (R251). -/
def exec_add_a_n8 (n : Byte) (s : State) : Result State := aluA .add (.imm n) 2 2 s

/-- ADC A,n8 (R254). -/
def exec_adc_a_n8 (n : Byte) (s : State) : Result State := aluA .adc (.imm n) 2 2 s

/-- SUB A,n8 (R257). -/
def exec_sub_a_n8 (n : Byte) (s : State) : Result State := aluA .sub (.imm n) 2 2 s

/-- SBC A,n8 (R260). -/
def exec_sbc_a_n8 (n : Byte) (s : State) : Result State := aluA .sbc (.imm n) 2 2 s

/-- AND A,n8 (R263). -/
def exec_and_a_n8 (n : Byte) (s : State) : Result State := aluA .and (.imm n) 2 2 s

/-- XOR A,n8 (R266). -/
def exec_xor_a_n8 (n : Byte) (s : State) : Result State := aluA .xor (.imm n) 2 2 s

/-- OR A,n8 (R269). -/
def exec_or_a_n8 (n : Byte) (s : State) : Result State := aluA .or (.imm n) 2 2 s

/-- CP A,n8 (R272). -/
def exec_cp_a_n8 (n : Byte) (s : State) : Result State := aluA .cp (.imm n) 2 2 s

end Sys2Proof.Machine
end

