-- ==== Sys2Proof/Machine/BitOps.lean ====
section
/-! DEFINITION. Rotates, shifts and bit operations (43_bitops.md): the shared forms, then one meaning
for each row. The number a prefixed meaning gives is its row's cost; its length is 2 (R120, R141). -/

namespace Sys2Proof.Machine

/-- An accumulator rotate, which forces Z to 0 (R330 to R333). -/
def rotateA (op : RotOp) (s : State) : Result State :=
  let r := rotCompute op s.cpu.a s.cpu.flagC
  .next (((s.setReg .a r.v).setFlags policyRotA r).retire (s.nextPC 1) 1)

/-- A prefixed rotate, shift or SWAP (R334 to R349). -/
def rotateByte (op : RotOp) (o : Rmw8) (cycles : Nat) (s : State) : Result State :=
  let r := rotCompute op (o.read s) s.cpu.flagC
  .next (((o.write r.v s).setFlags policyRot r).retire (s.nextPC 2) cycles)

/-- BIT b (R350, R351). -/
def bitByte (b : Nat) (o : Rmw8) (cycles : Nat) (s : State) : Result State :=
  .next ((s.setFlags policyBit (testBit (o.read s) b)).retire (s.nextPC 2) cycles)

/-- RES b (R352, R353). -/
def resByte (b : Nat) (o : Rmw8) (cycles : Nat) (s : State) : Result State :=
  .next ((o.write (resetBit (o.read s) b) s).retire (s.nextPC 2) cycles)

/-- SET b (R354, R355). -/
def setByte (b : Nat) (o : Rmw8) (cycles : Nat) (s : State) : Result State :=
  .next ((o.write (setBit (o.read s) b) s).retire (s.nextPC 2) cycles)

/-- RLCA (R330). -/
def exec_rlca (s : State) : Result State := rotateA .rlc s

/-- RRCA (R331). -/
def exec_rrca (s : State) : Result State := rotateA .rrc s

/-- RLA (R332). -/
def exec_rla (s : State) : Result State := rotateA .rl s

/-- RRA (R333). -/
def exec_rra (s : State) : Result State := rotateA .rr s

/-- RLC B (R334). -/
def exec_rlc_b (s : State) : Result State := rotateByte .rlc (.reg .b) 2 s

/-- RLC C (R334). -/
def exec_rlc_c (s : State) : Result State := rotateByte .rlc (.reg .c) 2 s

/-- RLC D (R334). -/
def exec_rlc_d (s : State) : Result State := rotateByte .rlc (.reg .d) 2 s

/-- RLC E (R334). -/
def exec_rlc_e (s : State) : Result State := rotateByte .rlc (.reg .e) 2 s

/-- RLC H (R334). -/
def exec_rlc_h (s : State) : Result State := rotateByte .rlc (.reg .h) 2 s

/-- RLC L (R334). -/
def exec_rlc_l (s : State) : Result State := rotateByte .rlc (.reg .l) 2 s

/-- RLC (HL) (R335). -/
def exec_rlc_atHL (s : State) : Result State := rotateByte .rlc .atHL 4 s

/-- RLC A (R334). -/
def exec_rlc_a (s : State) : Result State := rotateByte .rlc (.reg .a) 2 s

/-- RRC B (R336). -/
def exec_rrc_b (s : State) : Result State := rotateByte .rrc (.reg .b) 2 s

/-- RRC C (R336). -/
def exec_rrc_c (s : State) : Result State := rotateByte .rrc (.reg .c) 2 s

/-- RRC D (R336). -/
def exec_rrc_d (s : State) : Result State := rotateByte .rrc (.reg .d) 2 s

/-- RRC E (R336). -/
def exec_rrc_e (s : State) : Result State := rotateByte .rrc (.reg .e) 2 s

/-- RRC H (R336). -/
def exec_rrc_h (s : State) : Result State := rotateByte .rrc (.reg .h) 2 s

/-- RRC L (R336). -/
def exec_rrc_l (s : State) : Result State := rotateByte .rrc (.reg .l) 2 s

/-- RRC (HL) (R337). -/
def exec_rrc_atHL (s : State) : Result State := rotateByte .rrc .atHL 4 s

/-- RRC A (R336). -/
def exec_rrc_a (s : State) : Result State := rotateByte .rrc (.reg .a) 2 s

/-- RL B (R338). -/
def exec_rl_b (s : State) : Result State := rotateByte .rl (.reg .b) 2 s

/-- RL C (R338). -/
def exec_rl_c (s : State) : Result State := rotateByte .rl (.reg .c) 2 s

/-- RL D (R338). -/
def exec_rl_d (s : State) : Result State := rotateByte .rl (.reg .d) 2 s

/-- RL E (R338). -/
def exec_rl_e (s : State) : Result State := rotateByte .rl (.reg .e) 2 s

/-- RL H (R338). -/
def exec_rl_h (s : State) : Result State := rotateByte .rl (.reg .h) 2 s

/-- RL L (R338). -/
def exec_rl_l (s : State) : Result State := rotateByte .rl (.reg .l) 2 s

/-- RL (HL) (R339). -/
def exec_rl_atHL (s : State) : Result State := rotateByte .rl .atHL 4 s

/-- RL A (R338). -/
def exec_rl_a (s : State) : Result State := rotateByte .rl (.reg .a) 2 s

/-- RR B (R340). -/
def exec_rr_b (s : State) : Result State := rotateByte .rr (.reg .b) 2 s

/-- RR C (R340). -/
def exec_rr_c (s : State) : Result State := rotateByte .rr (.reg .c) 2 s

/-- RR D (R340). -/
def exec_rr_d (s : State) : Result State := rotateByte .rr (.reg .d) 2 s

/-- RR E (R340). -/
def exec_rr_e (s : State) : Result State := rotateByte .rr (.reg .e) 2 s

/-- RR H (R340). -/
def exec_rr_h (s : State) : Result State := rotateByte .rr (.reg .h) 2 s

/-- RR L (R340). -/
def exec_rr_l (s : State) : Result State := rotateByte .rr (.reg .l) 2 s

/-- RR (HL) (R341). -/
def exec_rr_atHL (s : State) : Result State := rotateByte .rr .atHL 4 s

/-- RR A (R340). -/
def exec_rr_a (s : State) : Result State := rotateByte .rr (.reg .a) 2 s

/-- SLA B (R342). -/
def exec_sla_b (s : State) : Result State := rotateByte .sla (.reg .b) 2 s

/-- SLA C (R342). -/
def exec_sla_c (s : State) : Result State := rotateByte .sla (.reg .c) 2 s

/-- SLA D (R342). -/
def exec_sla_d (s : State) : Result State := rotateByte .sla (.reg .d) 2 s

/-- SLA E (R342). -/
def exec_sla_e (s : State) : Result State := rotateByte .sla (.reg .e) 2 s

/-- SLA H (R342). -/
def exec_sla_h (s : State) : Result State := rotateByte .sla (.reg .h) 2 s

/-- SLA L (R342). -/
def exec_sla_l (s : State) : Result State := rotateByte .sla (.reg .l) 2 s

/-- SLA (HL) (R343). -/
def exec_sla_atHL (s : State) : Result State := rotateByte .sla .atHL 4 s

/-- SLA A (R342). -/
def exec_sla_a (s : State) : Result State := rotateByte .sla (.reg .a) 2 s

/-- SRA B (R344). -/
def exec_sra_b (s : State) : Result State := rotateByte .sra (.reg .b) 2 s

/-- SRA C (R344). -/
def exec_sra_c (s : State) : Result State := rotateByte .sra (.reg .c) 2 s

/-- SRA D (R344). -/
def exec_sra_d (s : State) : Result State := rotateByte .sra (.reg .d) 2 s

/-- SRA E (R344). -/
def exec_sra_e (s : State) : Result State := rotateByte .sra (.reg .e) 2 s

/-- SRA H (R344). -/
def exec_sra_h (s : State) : Result State := rotateByte .sra (.reg .h) 2 s

/-- SRA L (R344). -/
def exec_sra_l (s : State) : Result State := rotateByte .sra (.reg .l) 2 s

/-- SRA (HL) (R345). -/
def exec_sra_atHL (s : State) : Result State := rotateByte .sra .atHL 4 s

/-- SRA A (R344). -/
def exec_sra_a (s : State) : Result State := rotateByte .sra (.reg .a) 2 s

/-- SWAP B (R346). -/
def exec_swap_b (s : State) : Result State := rotateByte .swap (.reg .b) 2 s

/-- SWAP C (R346). -/
def exec_swap_c (s : State) : Result State := rotateByte .swap (.reg .c) 2 s

/-- SWAP D (R346). -/
def exec_swap_d (s : State) : Result State := rotateByte .swap (.reg .d) 2 s

/-- SWAP E (R346). -/
def exec_swap_e (s : State) : Result State := rotateByte .swap (.reg .e) 2 s

/-- SWAP H (R346). -/
def exec_swap_h (s : State) : Result State := rotateByte .swap (.reg .h) 2 s

/-- SWAP L (R346). -/
def exec_swap_l (s : State) : Result State := rotateByte .swap (.reg .l) 2 s

/-- SWAP (HL) (R347). -/
def exec_swap_atHL (s : State) : Result State := rotateByte .swap .atHL 4 s

/-- SWAP A (R346). -/
def exec_swap_a (s : State) : Result State := rotateByte .swap (.reg .a) 2 s

/-- SRL B (R348). -/
def exec_srl_b (s : State) : Result State := rotateByte .srl (.reg .b) 2 s

/-- SRL C (R348). -/
def exec_srl_c (s : State) : Result State := rotateByte .srl (.reg .c) 2 s

/-- SRL D (R348). -/
def exec_srl_d (s : State) : Result State := rotateByte .srl (.reg .d) 2 s

/-- SRL E (R348). -/
def exec_srl_e (s : State) : Result State := rotateByte .srl (.reg .e) 2 s

/-- SRL H (R348). -/
def exec_srl_h (s : State) : Result State := rotateByte .srl (.reg .h) 2 s

/-- SRL L (R348). -/
def exec_srl_l (s : State) : Result State := rotateByte .srl (.reg .l) 2 s

/-- SRL (HL) (R349). -/
def exec_srl_atHL (s : State) : Result State := rotateByte .srl .atHL 4 s

/-- SRL A (R348). -/
def exec_srl_a (s : State) : Result State := rotateByte .srl (.reg .a) 2 s

/-- BIT 0,B (R350). -/
def exec_bit_0_b (s : State) : Result State := bitByte 0 (.reg .b) 2 s

/-- BIT 0,C (R350). -/
def exec_bit_0_c (s : State) : Result State := bitByte 0 (.reg .c) 2 s

/-- BIT 0,D (R350). -/
def exec_bit_0_d (s : State) : Result State := bitByte 0 (.reg .d) 2 s

/-- BIT 0,E (R350). -/
def exec_bit_0_e (s : State) : Result State := bitByte 0 (.reg .e) 2 s

/-- BIT 0,H (R350). -/
def exec_bit_0_h (s : State) : Result State := bitByte 0 (.reg .h) 2 s

/-- BIT 0,L (R350). -/
def exec_bit_0_l (s : State) : Result State := bitByte 0 (.reg .l) 2 s

/-- BIT 0,(HL) (R351). -/
def exec_bit_0_atHL (s : State) : Result State := bitByte 0 .atHL 3 s

/-- BIT 0,A (R350). -/
def exec_bit_0_a (s : State) : Result State := bitByte 0 (.reg .a) 2 s

/-- BIT 1,B (R350). -/
def exec_bit_1_b (s : State) : Result State := bitByte 1 (.reg .b) 2 s

/-- BIT 1,C (R350). -/
def exec_bit_1_c (s : State) : Result State := bitByte 1 (.reg .c) 2 s

/-- BIT 1,D (R350). -/
def exec_bit_1_d (s : State) : Result State := bitByte 1 (.reg .d) 2 s

/-- BIT 1,E (R350). -/
def exec_bit_1_e (s : State) : Result State := bitByte 1 (.reg .e) 2 s

/-- BIT 1,H (R350). -/
def exec_bit_1_h (s : State) : Result State := bitByte 1 (.reg .h) 2 s

/-- BIT 1,L (R350). -/
def exec_bit_1_l (s : State) : Result State := bitByte 1 (.reg .l) 2 s

/-- BIT 1,(HL) (R351). -/
def exec_bit_1_atHL (s : State) : Result State := bitByte 1 .atHL 3 s

/-- BIT 1,A (R350). -/
def exec_bit_1_a (s : State) : Result State := bitByte 1 (.reg .a) 2 s

/-- BIT 2,B (R350). -/
def exec_bit_2_b (s : State) : Result State := bitByte 2 (.reg .b) 2 s

/-- BIT 2,C (R350). -/
def exec_bit_2_c (s : State) : Result State := bitByte 2 (.reg .c) 2 s

/-- BIT 2,D (R350). -/
def exec_bit_2_d (s : State) : Result State := bitByte 2 (.reg .d) 2 s

/-- BIT 2,E (R350). -/
def exec_bit_2_e (s : State) : Result State := bitByte 2 (.reg .e) 2 s

/-- BIT 2,H (R350). -/
def exec_bit_2_h (s : State) : Result State := bitByte 2 (.reg .h) 2 s

/-- BIT 2,L (R350). -/
def exec_bit_2_l (s : State) : Result State := bitByte 2 (.reg .l) 2 s

/-- BIT 2,(HL) (R351). -/
def exec_bit_2_atHL (s : State) : Result State := bitByte 2 .atHL 3 s

/-- BIT 2,A (R350). -/
def exec_bit_2_a (s : State) : Result State := bitByte 2 (.reg .a) 2 s

/-- BIT 3,B (R350). -/
def exec_bit_3_b (s : State) : Result State := bitByte 3 (.reg .b) 2 s

/-- BIT 3,C (R350). -/
def exec_bit_3_c (s : State) : Result State := bitByte 3 (.reg .c) 2 s

/-- BIT 3,D (R350). -/
def exec_bit_3_d (s : State) : Result State := bitByte 3 (.reg .d) 2 s

/-- BIT 3,E (R350). -/
def exec_bit_3_e (s : State) : Result State := bitByte 3 (.reg .e) 2 s

/-- BIT 3,H (R350). -/
def exec_bit_3_h (s : State) : Result State := bitByte 3 (.reg .h) 2 s

/-- BIT 3,L (R350). -/
def exec_bit_3_l (s : State) : Result State := bitByte 3 (.reg .l) 2 s

/-- BIT 3,(HL) (R351). -/
def exec_bit_3_atHL (s : State) : Result State := bitByte 3 .atHL 3 s

/-- BIT 3,A (R350). -/
def exec_bit_3_a (s : State) : Result State := bitByte 3 (.reg .a) 2 s

/-- BIT 4,B (R350). -/
def exec_bit_4_b (s : State) : Result State := bitByte 4 (.reg .b) 2 s

/-- BIT 4,C (R350). -/
def exec_bit_4_c (s : State) : Result State := bitByte 4 (.reg .c) 2 s

/-- BIT 4,D (R350). -/
def exec_bit_4_d (s : State) : Result State := bitByte 4 (.reg .d) 2 s

/-- BIT 4,E (R350). -/
def exec_bit_4_e (s : State) : Result State := bitByte 4 (.reg .e) 2 s

/-- BIT 4,H (R350). -/
def exec_bit_4_h (s : State) : Result State := bitByte 4 (.reg .h) 2 s

/-- BIT 4,L (R350). -/
def exec_bit_4_l (s : State) : Result State := bitByte 4 (.reg .l) 2 s

/-- BIT 4,(HL) (R351). -/
def exec_bit_4_atHL (s : State) : Result State := bitByte 4 .atHL 3 s

/-- BIT 4,A (R350). -/
def exec_bit_4_a (s : State) : Result State := bitByte 4 (.reg .a) 2 s

/-- BIT 5,B (R350). -/
def exec_bit_5_b (s : State) : Result State := bitByte 5 (.reg .b) 2 s

/-- BIT 5,C (R350). -/
def exec_bit_5_c (s : State) : Result State := bitByte 5 (.reg .c) 2 s

/-- BIT 5,D (R350). -/
def exec_bit_5_d (s : State) : Result State := bitByte 5 (.reg .d) 2 s

/-- BIT 5,E (R350). -/
def exec_bit_5_e (s : State) : Result State := bitByte 5 (.reg .e) 2 s

/-- BIT 5,H (R350). -/
def exec_bit_5_h (s : State) : Result State := bitByte 5 (.reg .h) 2 s

/-- BIT 5,L (R350). -/
def exec_bit_5_l (s : State) : Result State := bitByte 5 (.reg .l) 2 s

/-- BIT 5,(HL) (R351). -/
def exec_bit_5_atHL (s : State) : Result State := bitByte 5 .atHL 3 s

/-- BIT 5,A (R350). -/
def exec_bit_5_a (s : State) : Result State := bitByte 5 (.reg .a) 2 s

/-- BIT 6,B (R350). -/
def exec_bit_6_b (s : State) : Result State := bitByte 6 (.reg .b) 2 s

/-- BIT 6,C (R350). -/
def exec_bit_6_c (s : State) : Result State := bitByte 6 (.reg .c) 2 s

/-- BIT 6,D (R350). -/
def exec_bit_6_d (s : State) : Result State := bitByte 6 (.reg .d) 2 s

/-- BIT 6,E (R350). -/
def exec_bit_6_e (s : State) : Result State := bitByte 6 (.reg .e) 2 s

/-- BIT 6,H (R350). -/
def exec_bit_6_h (s : State) : Result State := bitByte 6 (.reg .h) 2 s

/-- BIT 6,L (R350). -/
def exec_bit_6_l (s : State) : Result State := bitByte 6 (.reg .l) 2 s

/-- BIT 6,(HL) (R351). -/
def exec_bit_6_atHL (s : State) : Result State := bitByte 6 .atHL 3 s

/-- BIT 6,A (R350). -/
def exec_bit_6_a (s : State) : Result State := bitByte 6 (.reg .a) 2 s

/-- BIT 7,B (R350). -/
def exec_bit_7_b (s : State) : Result State := bitByte 7 (.reg .b) 2 s

/-- BIT 7,C (R350). -/
def exec_bit_7_c (s : State) : Result State := bitByte 7 (.reg .c) 2 s

/-- BIT 7,D (R350). -/
def exec_bit_7_d (s : State) : Result State := bitByte 7 (.reg .d) 2 s

/-- BIT 7,E (R350). -/
def exec_bit_7_e (s : State) : Result State := bitByte 7 (.reg .e) 2 s

/-- BIT 7,H (R350). -/
def exec_bit_7_h (s : State) : Result State := bitByte 7 (.reg .h) 2 s

/-- BIT 7,L (R350). -/
def exec_bit_7_l (s : State) : Result State := bitByte 7 (.reg .l) 2 s

/-- BIT 7,(HL) (R351). -/
def exec_bit_7_atHL (s : State) : Result State := bitByte 7 .atHL 3 s

/-- BIT 7,A (R350). -/
def exec_bit_7_a (s : State) : Result State := bitByte 7 (.reg .a) 2 s

/-- RES 0,B (R352). -/
def exec_res_0_b (s : State) : Result State := resByte 0 (.reg .b) 2 s

/-- RES 0,C (R352). -/
def exec_res_0_c (s : State) : Result State := resByte 0 (.reg .c) 2 s

/-- RES 0,D (R352). -/
def exec_res_0_d (s : State) : Result State := resByte 0 (.reg .d) 2 s

/-- RES 0,E (R352). -/
def exec_res_0_e (s : State) : Result State := resByte 0 (.reg .e) 2 s

/-- RES 0,H (R352). -/
def exec_res_0_h (s : State) : Result State := resByte 0 (.reg .h) 2 s

/-- RES 0,L (R352). -/
def exec_res_0_l (s : State) : Result State := resByte 0 (.reg .l) 2 s

/-- RES 0,(HL) (R353). -/
def exec_res_0_atHL (s : State) : Result State := resByte 0 .atHL 4 s

/-- RES 0,A (R352). -/
def exec_res_0_a (s : State) : Result State := resByte 0 (.reg .a) 2 s

/-- RES 1,B (R352). -/
def exec_res_1_b (s : State) : Result State := resByte 1 (.reg .b) 2 s

/-- RES 1,C (R352). -/
def exec_res_1_c (s : State) : Result State := resByte 1 (.reg .c) 2 s

/-- RES 1,D (R352). -/
def exec_res_1_d (s : State) : Result State := resByte 1 (.reg .d) 2 s

/-- RES 1,E (R352). -/
def exec_res_1_e (s : State) : Result State := resByte 1 (.reg .e) 2 s

/-- RES 1,H (R352). -/
def exec_res_1_h (s : State) : Result State := resByte 1 (.reg .h) 2 s

/-- RES 1,L (R352). -/
def exec_res_1_l (s : State) : Result State := resByte 1 (.reg .l) 2 s

/-- RES 1,(HL) (R353). -/
def exec_res_1_atHL (s : State) : Result State := resByte 1 .atHL 4 s

/-- RES 1,A (R352). -/
def exec_res_1_a (s : State) : Result State := resByte 1 (.reg .a) 2 s

/-- RES 2,B (R352). -/
def exec_res_2_b (s : State) : Result State := resByte 2 (.reg .b) 2 s

/-- RES 2,C (R352). -/
def exec_res_2_c (s : State) : Result State := resByte 2 (.reg .c) 2 s

/-- RES 2,D (R352). -/
def exec_res_2_d (s : State) : Result State := resByte 2 (.reg .d) 2 s

/-- RES 2,E (R352). -/
def exec_res_2_e (s : State) : Result State := resByte 2 (.reg .e) 2 s

/-- RES 2,H (R352). -/
def exec_res_2_h (s : State) : Result State := resByte 2 (.reg .h) 2 s

/-- RES 2,L (R352). -/
def exec_res_2_l (s : State) : Result State := resByte 2 (.reg .l) 2 s

/-- RES 2,(HL) (R353). -/
def exec_res_2_atHL (s : State) : Result State := resByte 2 .atHL 4 s

/-- RES 2,A (R352). -/
def exec_res_2_a (s : State) : Result State := resByte 2 (.reg .a) 2 s

/-- RES 3,B (R352). -/
def exec_res_3_b (s : State) : Result State := resByte 3 (.reg .b) 2 s

/-- RES 3,C (R352). -/
def exec_res_3_c (s : State) : Result State := resByte 3 (.reg .c) 2 s

/-- RES 3,D (R352). -/
def exec_res_3_d (s : State) : Result State := resByte 3 (.reg .d) 2 s

/-- RES 3,E (R352). -/
def exec_res_3_e (s : State) : Result State := resByte 3 (.reg .e) 2 s

/-- RES 3,H (R352). -/
def exec_res_3_h (s : State) : Result State := resByte 3 (.reg .h) 2 s

/-- RES 3,L (R352). -/
def exec_res_3_l (s : State) : Result State := resByte 3 (.reg .l) 2 s

/-- RES 3,(HL) (R353). -/
def exec_res_3_atHL (s : State) : Result State := resByte 3 .atHL 4 s

/-- RES 3,A (R352). -/
def exec_res_3_a (s : State) : Result State := resByte 3 (.reg .a) 2 s

/-- RES 4,B (R352). -/
def exec_res_4_b (s : State) : Result State := resByte 4 (.reg .b) 2 s

/-- RES 4,C (R352). -/
def exec_res_4_c (s : State) : Result State := resByte 4 (.reg .c) 2 s

/-- RES 4,D (R352). -/
def exec_res_4_d (s : State) : Result State := resByte 4 (.reg .d) 2 s

/-- RES 4,E (R352). -/
def exec_res_4_e (s : State) : Result State := resByte 4 (.reg .e) 2 s

/-- RES 4,H (R352). -/
def exec_res_4_h (s : State) : Result State := resByte 4 (.reg .h) 2 s

/-- RES 4,L (R352). -/
def exec_res_4_l (s : State) : Result State := resByte 4 (.reg .l) 2 s

/-- RES 4,(HL) (R353). -/
def exec_res_4_atHL (s : State) : Result State := resByte 4 .atHL 4 s

/-- RES 4,A (R352). -/
def exec_res_4_a (s : State) : Result State := resByte 4 (.reg .a) 2 s

/-- RES 5,B (R352). -/
def exec_res_5_b (s : State) : Result State := resByte 5 (.reg .b) 2 s

/-- RES 5,C (R352). -/
def exec_res_5_c (s : State) : Result State := resByte 5 (.reg .c) 2 s

/-- RES 5,D (R352). -/
def exec_res_5_d (s : State) : Result State := resByte 5 (.reg .d) 2 s

/-- RES 5,E (R352). -/
def exec_res_5_e (s : State) : Result State := resByte 5 (.reg .e) 2 s

/-- RES 5,H (R352). -/
def exec_res_5_h (s : State) : Result State := resByte 5 (.reg .h) 2 s

/-- RES 5,L (R352). -/
def exec_res_5_l (s : State) : Result State := resByte 5 (.reg .l) 2 s

/-- RES 5,(HL) (R353). -/
def exec_res_5_atHL (s : State) : Result State := resByte 5 .atHL 4 s

/-- RES 5,A (R352). -/
def exec_res_5_a (s : State) : Result State := resByte 5 (.reg .a) 2 s

/-- RES 6,B (R352). -/
def exec_res_6_b (s : State) : Result State := resByte 6 (.reg .b) 2 s

/-- RES 6,C (R352). -/
def exec_res_6_c (s : State) : Result State := resByte 6 (.reg .c) 2 s

/-- RES 6,D (R352). -/
def exec_res_6_d (s : State) : Result State := resByte 6 (.reg .d) 2 s

/-- RES 6,E (R352). -/
def exec_res_6_e (s : State) : Result State := resByte 6 (.reg .e) 2 s

/-- RES 6,H (R352). -/
def exec_res_6_h (s : State) : Result State := resByte 6 (.reg .h) 2 s

/-- RES 6,L (R352). -/
def exec_res_6_l (s : State) : Result State := resByte 6 (.reg .l) 2 s

/-- RES 6,(HL) (R353). -/
def exec_res_6_atHL (s : State) : Result State := resByte 6 .atHL 4 s

/-- RES 6,A (R352). -/
def exec_res_6_a (s : State) : Result State := resByte 6 (.reg .a) 2 s

/-- RES 7,B (R352). -/
def exec_res_7_b (s : State) : Result State := resByte 7 (.reg .b) 2 s

/-- RES 7,C (R352). -/
def exec_res_7_c (s : State) : Result State := resByte 7 (.reg .c) 2 s

/-- RES 7,D (R352). -/
def exec_res_7_d (s : State) : Result State := resByte 7 (.reg .d) 2 s

/-- RES 7,E (R352). -/
def exec_res_7_e (s : State) : Result State := resByte 7 (.reg .e) 2 s

/-- RES 7,H (R352). -/
def exec_res_7_h (s : State) : Result State := resByte 7 (.reg .h) 2 s

/-- RES 7,L (R352). -/
def exec_res_7_l (s : State) : Result State := resByte 7 (.reg .l) 2 s

/-- RES 7,(HL) (R353). -/
def exec_res_7_atHL (s : State) : Result State := resByte 7 .atHL 4 s

/-- RES 7,A (R352). -/
def exec_res_7_a (s : State) : Result State := resByte 7 (.reg .a) 2 s

/-- SET 0,B (R354). -/
def exec_set_0_b (s : State) : Result State := setByte 0 (.reg .b) 2 s

/-- SET 0,C (R354). -/
def exec_set_0_c (s : State) : Result State := setByte 0 (.reg .c) 2 s

/-- SET 0,D (R354). -/
def exec_set_0_d (s : State) : Result State := setByte 0 (.reg .d) 2 s

/-- SET 0,E (R354). -/
def exec_set_0_e (s : State) : Result State := setByte 0 (.reg .e) 2 s

/-- SET 0,H (R354). -/
def exec_set_0_h (s : State) : Result State := setByte 0 (.reg .h) 2 s

/-- SET 0,L (R354). -/
def exec_set_0_l (s : State) : Result State := setByte 0 (.reg .l) 2 s

/-- SET 0,(HL) (R355). -/
def exec_set_0_atHL (s : State) : Result State := setByte 0 .atHL 4 s

/-- SET 0,A (R354). -/
def exec_set_0_a (s : State) : Result State := setByte 0 (.reg .a) 2 s

/-- SET 1,B (R354). -/
def exec_set_1_b (s : State) : Result State := setByte 1 (.reg .b) 2 s

/-- SET 1,C (R354). -/
def exec_set_1_c (s : State) : Result State := setByte 1 (.reg .c) 2 s

/-- SET 1,D (R354). -/
def exec_set_1_d (s : State) : Result State := setByte 1 (.reg .d) 2 s

/-- SET 1,E (R354). -/
def exec_set_1_e (s : State) : Result State := setByte 1 (.reg .e) 2 s

/-- SET 1,H (R354). -/
def exec_set_1_h (s : State) : Result State := setByte 1 (.reg .h) 2 s

/-- SET 1,L (R354). -/
def exec_set_1_l (s : State) : Result State := setByte 1 (.reg .l) 2 s

/-- SET 1,(HL) (R355). -/
def exec_set_1_atHL (s : State) : Result State := setByte 1 .atHL 4 s

/-- SET 1,A (R354). -/
def exec_set_1_a (s : State) : Result State := setByte 1 (.reg .a) 2 s

/-- SET 2,B (R354). -/
def exec_set_2_b (s : State) : Result State := setByte 2 (.reg .b) 2 s

/-- SET 2,C (R354). -/
def exec_set_2_c (s : State) : Result State := setByte 2 (.reg .c) 2 s

/-- SET 2,D (R354). -/
def exec_set_2_d (s : State) : Result State := setByte 2 (.reg .d) 2 s

/-- SET 2,E (R354). -/
def exec_set_2_e (s : State) : Result State := setByte 2 (.reg .e) 2 s

/-- SET 2,H (R354). -/
def exec_set_2_h (s : State) : Result State := setByte 2 (.reg .h) 2 s

/-- SET 2,L (R354). -/
def exec_set_2_l (s : State) : Result State := setByte 2 (.reg .l) 2 s

/-- SET 2,(HL) (R355). -/
def exec_set_2_atHL (s : State) : Result State := setByte 2 .atHL 4 s

/-- SET 2,A (R354). -/
def exec_set_2_a (s : State) : Result State := setByte 2 (.reg .a) 2 s

/-- SET 3,B (R354). -/
def exec_set_3_b (s : State) : Result State := setByte 3 (.reg .b) 2 s

/-- SET 3,C (R354). -/
def exec_set_3_c (s : State) : Result State := setByte 3 (.reg .c) 2 s

/-- SET 3,D (R354). -/
def exec_set_3_d (s : State) : Result State := setByte 3 (.reg .d) 2 s

/-- SET 3,E (R354). -/
def exec_set_3_e (s : State) : Result State := setByte 3 (.reg .e) 2 s

/-- SET 3,H (R354). -/
def exec_set_3_h (s : State) : Result State := setByte 3 (.reg .h) 2 s

/-- SET 3,L (R354). -/
def exec_set_3_l (s : State) : Result State := setByte 3 (.reg .l) 2 s

/-- SET 3,(HL) (R355). -/
def exec_set_3_atHL (s : State) : Result State := setByte 3 .atHL 4 s

/-- SET 3,A (R354). -/
def exec_set_3_a (s : State) : Result State := setByte 3 (.reg .a) 2 s

/-- SET 4,B (R354). -/
def exec_set_4_b (s : State) : Result State := setByte 4 (.reg .b) 2 s

/-- SET 4,C (R354). -/
def exec_set_4_c (s : State) : Result State := setByte 4 (.reg .c) 2 s

/-- SET 4,D (R354). -/
def exec_set_4_d (s : State) : Result State := setByte 4 (.reg .d) 2 s

/-- SET 4,E (R354). -/
def exec_set_4_e (s : State) : Result State := setByte 4 (.reg .e) 2 s

/-- SET 4,H (R354). -/
def exec_set_4_h (s : State) : Result State := setByte 4 (.reg .h) 2 s

/-- SET 4,L (R354). -/
def exec_set_4_l (s : State) : Result State := setByte 4 (.reg .l) 2 s

/-- SET 4,(HL) (R355). -/
def exec_set_4_atHL (s : State) : Result State := setByte 4 .atHL 4 s

/-- SET 4,A (R354). -/
def exec_set_4_a (s : State) : Result State := setByte 4 (.reg .a) 2 s

/-- SET 5,B (R354). -/
def exec_set_5_b (s : State) : Result State := setByte 5 (.reg .b) 2 s

/-- SET 5,C (R354). -/
def exec_set_5_c (s : State) : Result State := setByte 5 (.reg .c) 2 s

/-- SET 5,D (R354). -/
def exec_set_5_d (s : State) : Result State := setByte 5 (.reg .d) 2 s

/-- SET 5,E (R354). -/
def exec_set_5_e (s : State) : Result State := setByte 5 (.reg .e) 2 s

/-- SET 5,H (R354). -/
def exec_set_5_h (s : State) : Result State := setByte 5 (.reg .h) 2 s

/-- SET 5,L (R354). -/
def exec_set_5_l (s : State) : Result State := setByte 5 (.reg .l) 2 s

/-- SET 5,(HL) (R355). -/
def exec_set_5_atHL (s : State) : Result State := setByte 5 .atHL 4 s

/-- SET 5,A (R354). -/
def exec_set_5_a (s : State) : Result State := setByte 5 (.reg .a) 2 s

/-- SET 6,B (R354). -/
def exec_set_6_b (s : State) : Result State := setByte 6 (.reg .b) 2 s

/-- SET 6,C (R354). -/
def exec_set_6_c (s : State) : Result State := setByte 6 (.reg .c) 2 s

/-- SET 6,D (R354). -/
def exec_set_6_d (s : State) : Result State := setByte 6 (.reg .d) 2 s

/-- SET 6,E (R354). -/
def exec_set_6_e (s : State) : Result State := setByte 6 (.reg .e) 2 s

/-- SET 6,H (R354). -/
def exec_set_6_h (s : State) : Result State := setByte 6 (.reg .h) 2 s

/-- SET 6,L (R354). -/
def exec_set_6_l (s : State) : Result State := setByte 6 (.reg .l) 2 s

/-- SET 6,(HL) (R355). -/
def exec_set_6_atHL (s : State) : Result State := setByte 6 .atHL 4 s

/-- SET 6,A (R354). -/
def exec_set_6_a (s : State) : Result State := setByte 6 (.reg .a) 2 s

/-- SET 7,B (R354). -/
def exec_set_7_b (s : State) : Result State := setByte 7 (.reg .b) 2 s

/-- SET 7,C (R354). -/
def exec_set_7_c (s : State) : Result State := setByte 7 (.reg .c) 2 s

/-- SET 7,D (R354). -/
def exec_set_7_d (s : State) : Result State := setByte 7 (.reg .d) 2 s

/-- SET 7,E (R354). -/
def exec_set_7_e (s : State) : Result State := setByte 7 (.reg .e) 2 s

/-- SET 7,H (R354). -/
def exec_set_7_h (s : State) : Result State := setByte 7 (.reg .h) 2 s

/-- SET 7,L (R354). -/
def exec_set_7_l (s : State) : Result State := setByte 7 (.reg .l) 2 s

/-- SET 7,(HL) (R355). -/
def exec_set_7_atHL (s : State) : Result State := setByte 7 .atHL 4 s

/-- SET 7,A (R354). -/
def exec_set_7_a (s : State) : Result State := setByte 7 (.reg .a) 2 s

end Sys2Proof.Machine
end

