-- ==== Sys2Proof/Machine/Control.lean ====
section
/-! DEFINITION. Jumps, calls and returns (44_control.md): the shared forms, then one meaning for each
row. A conditional form is charged its base cost, and its extra cost too when taken (R136). -/

namespace Sys2Proof.Machine

/-- A jump to `target` (R370, R372, R373). -/
def jumpTo (target : Word) (cycles : Nat) (s : State) : Result State :=
  .next (s.retire target cycles)

/-- A jump to `target` if the condition holds (R371, R374). -/
def jumpIf (cc : Cond) (target : Word) (len cycles extra : Nat) (s : State) : Result State :=
  if condHolds cc s.cpu then .next (s.retire target (cycles + extra))
  else .next (s.retire (s.nextPC len) cycles)

/-- The target of a relative jump: 2 bytes on, plus the signed displacement (R373). -/
def relTarget (e : Byte) (s : State) : Word := s.nextPC 2 + sext16 e

/-- A call of `target`, which pushes the address of the next instruction (R375, R380). -/
def callTo (target : Word) (len cycles : Nat) (s : State) : Result State :=
  .next ((s.push16 (s.nextPC len)).retire target cycles)

/-- CALL cc,n16 (R376). -/
def callIf (cc : Cond) (target : Word) (cycles extra : Nat) (s : State) : Result State :=
  if condHolds cc s.cpu then .next ((s.push16 (s.nextPC 3)).retire target (cycles + extra))
  else .next (s.retire (s.nextPC 3) cycles)

/-- RET (R377). -/
def returnTo (cycles : Nat) (s : State) : Result State :=
  .next (s.dropped16.retire s.top16 cycles)

/-- RET cc (R378). -/
def returnIf (cc : Cond) (cycles extra : Nat) (s : State) : Result State :=
  if condHolds cc s.cpu then .next (s.dropped16.retire s.top16 (cycles + extra))
  else .next (s.retire (s.nextPC 1) cycles)

/-- JR e8 (R373). -/
def exec_jr_e8 (e : Byte) (s : State) : Result State := jumpTo (relTarget e s) 3 s

/-- JR NZ,e8 (R374). -/
def exec_jr_nz_e8 (e : Byte) (s : State) : Result State := jumpIf .nz (relTarget e s) 2 2 1 s

/-- JR Z,e8 (R374). -/
def exec_jr_z_e8 (e : Byte) (s : State) : Result State := jumpIf .z (relTarget e s) 2 2 1 s

/-- JR NC,e8 (R374). -/
def exec_jr_nc_e8 (e : Byte) (s : State) : Result State := jumpIf .nc (relTarget e s) 2 2 1 s

/-- JR C,e8 (R374). -/
def exec_jr_c_e8 (e : Byte) (s : State) : Result State := jumpIf .c (relTarget e s) 2 2 1 s

/-- RET NZ (R378). -/
def exec_ret_nz (s : State) : Result State := returnIf .nz 2 3 s

/-- JP NZ,n16 (R371). -/
def exec_jp_nz_n16 (nn : Word) (s : State) : Result State := jumpIf .nz nn 3 3 1 s

/-- JP n16 (R370). -/
def exec_jp_n16 (nn : Word) (s : State) : Result State := jumpTo nn 4 s

/-- CALL NZ,n16 (R376). -/
def exec_call_nz_n16 (nn : Word) (s : State) : Result State := callIf .nz nn 3 3 s

/-- RST 0x00 (R380). -/
def exec_rst_00 (s : State) : Result State := callTo 0x0000 1 4 s

/-- RET Z (R378). -/
def exec_ret_z (s : State) : Result State := returnIf .z 2 3 s

/-- RET (R377). -/
def exec_ret (s : State) : Result State := returnTo 4 s

/-- JP Z,n16 (R371). -/
def exec_jp_z_n16 (nn : Word) (s : State) : Result State := jumpIf .z nn 3 3 1 s

/-- CALL Z,n16 (R376). -/
def exec_call_z_n16 (nn : Word) (s : State) : Result State := callIf .z nn 3 3 s

/-- CALL n16 (R375). -/
def exec_call_n16 (nn : Word) (s : State) : Result State := callTo nn 3 6 s

/-- RST 0x08 (R380). -/
def exec_rst_08 (s : State) : Result State := callTo 0x0008 1 4 s

/-- RET NC (R378). -/
def exec_ret_nc (s : State) : Result State := returnIf .nc 2 3 s

/-- JP NC,n16 (R371). -/
def exec_jp_nc_n16 (nn : Word) (s : State) : Result State := jumpIf .nc nn 3 3 1 s

/-- CALL NC,n16 (R376). -/
def exec_call_nc_n16 (nn : Word) (s : State) : Result State := callIf .nc nn 3 3 s

/-- RST 0x10 (R380). -/
def exec_rst_10 (s : State) : Result State := callTo 0x0010 1 4 s

/-- RET C (R378). -/
def exec_ret_c (s : State) : Result State := returnIf .c 2 3 s

/-- RETI (R379). -/
def exec_reti (s : State) : Result State := .next (interruptReturn 4 s)

/-- JP C,n16 (R371). -/
def exec_jp_c_n16 (nn : Word) (s : State) : Result State := jumpIf .c nn 3 3 1 s

/-- CALL C,n16 (R376). -/
def exec_call_c_n16 (nn : Word) (s : State) : Result State := callIf .c nn 3 3 s

/-- RST 0x18 (R380). -/
def exec_rst_18 (s : State) : Result State := callTo 0x0018 1 4 s

/-- RST 0x20 (R380). -/
def exec_rst_20 (s : State) : Result State := callTo 0x0020 1 4 s

/-- JP HL (R372). -/
def exec_jp_hl (s : State) : Result State := jumpTo s.cpu.hl 1 s

/-- RST 0x28 (R380). -/
def exec_rst_28 (s : State) : Result State := callTo 0x0028 1 4 s

/-- RST 0x30 (R380). -/
def exec_rst_30 (s : State) : Result State := callTo 0x0030 1 4 s

/-- RST 0x38 (R380). -/
def exec_rst_38 (s : State) : Result State := callTo 0x0038 1 4 s

end Sys2Proof.Machine
end

