-- ==== Sys2Proof/Machine/Loads.lean ====
section
/-! DEFINITION. Loads, stores and stack transfers (40_loads.md): the shared forms, then one meaning
for each row. The numbers a meaning gives are its row's length and cost (R141). -/

namespace Sys2Proof.Machine

/-- LD of a register from a source byte (R202, R203, R204). -/
def ldReg (dst : Reg8) (src : Src8) (len cycles : Nat) (s : State) : Result State :=
  .next ((s.setReg dst (src.read s)).retire (s.nextPC len) cycles)

/-- A store of one byte at an address (R205, R206, R209, R210, R212, R214, R216). -/
def ldStore (addr : Word) (v : Byte) (len cycles : Nat) (s : State) : Result State :=
  .next ((s.busWrite addr v).retire (s.nextPC len) cycles)

/-- A load of A from an address (R207, R208, R211, R213, R215). -/
def ldAFrom (addr : Word) (len cycles : Nat) (s : State) : Result State :=
  .next ((s.setReg .a (s.busRead addr)).retire (s.nextPC len) cycles)

/-- A load of A from HL, which then moves by `delta` (R217, R218). -/
def ldAStepHL (delta : Word) (s : State) : Result State :=
  .next (((s.setReg .a (s.busRead s.cpu.hl)).setHL (s.cpu.hl + delta)).retire (s.nextPC 1) 2)

/-- A store of A at HL, which then moves by `delta` (R219, R220). -/
def ldStepHLA (delta : Word) (s : State) : Result State :=
  .next (((s.busWrite s.cpu.hl s.cpu.a).setHL (s.cpu.hl + delta)).retire (s.nextPC 1) 2)

/-- LD rr,n16 (R221). -/
def ldPair (p : Pair16) (nn : Word) (s : State) : Result State :=
  .next (State.retire { s with cpu := s.cpu.setPair p nn } (s.nextPC 3) 3)

/-- LD (n16),SP (R222). -/
def ldStoreSP (nn : Word) (s : State) : Result State :=
  .next ((s.busWrite16 nn s.cpu.sp).retire (s.nextPC 3) 5)

/-- LD SP,HL (R223). -/
def ldSPHL (s : State) : Result State :=
  .next ((s.setSP s.cpu.hl).retire (s.nextPC 1) 2)

/-- PUSH rr (R224). -/
def pushPair (p : StackPair) (s : State) : Result State :=
  .next ((s.push16 (s.cpu.stackPair p)).retire (s.nextPC 1) 4)

/-- POP rr (R225). -/
def popPair (p : StackPair) (s : State) : Result State :=
  let t := s.dropped16
  .next (State.retire { t with cpu := t.cpu.setStackPair p s.top16 } (s.nextPC 1) 3)

/-- LD BC,n16 (R221). -/
def exec_ld_bc_n16 (nn : Word) (s : State) : Result State := ldPair .bc nn s

/-- LD (BC),A (R209). -/
def exec_ld_atBC_a (s : State) : Result State := ldStore (s.cpu.pair .bc) s.cpu.a 1 2 s

/-- LD B,n8 (R203). -/
def exec_ld_b_n8 (n : Byte) (s : State) : Result State := ldReg .b (.imm n) 2 2 s

/-- LD (n16),SP (R222). -/
def exec_ld_atN16_sp (nn : Word) (s : State) : Result State := ldStoreSP nn s

/-- LD A,(BC) (R207). -/
def exec_ld_a_atBC (s : State) : Result State := ldAFrom (s.cpu.pair .bc) 1 2 s

/-- LD C,n8 (R203). -/
def exec_ld_c_n8 (n : Byte) (s : State) : Result State := ldReg .c (.imm n) 2 2 s

/-- LD DE,n16 (R221). -/
def exec_ld_de_n16 (nn : Word) (s : State) : Result State := ldPair .de nn s

/-- LD (DE),A (R210). -/
def exec_ld_atDE_a (s : State) : Result State := ldStore (s.cpu.pair .de) s.cpu.a 1 2 s

/-- LD D,n8 (R203). -/
def exec_ld_d_n8 (n : Byte) (s : State) : Result State := ldReg .d (.imm n) 2 2 s

/-- LD A,(DE) (R208). -/
def exec_ld_a_atDE (s : State) : Result State := ldAFrom (s.cpu.pair .de) 1 2 s

/-- LD E,n8 (R203). -/
def exec_ld_e_n8 (n : Byte) (s : State) : Result State := ldReg .e (.imm n) 2 2 s

/-- LD HL,n16 (R221). -/
def exec_ld_hl_n16 (nn : Word) (s : State) : Result State := ldPair .hl nn s

/-- LD (HL+),A (R219). -/
def exec_ld_atHLinc_a (s : State) : Result State := ldStepHLA 1 s

/-- LD H,n8 (R203). -/
def exec_ld_h_n8 (n : Byte) (s : State) : Result State := ldReg .h (.imm n) 2 2 s

/-- LD A,(HL+) (R217). -/
def exec_ld_a_atHLinc (s : State) : Result State := ldAStepHL 1 s

/-- LD L,n8 (R203). -/
def exec_ld_l_n8 (n : Byte) (s : State) : Result State := ldReg .l (.imm n) 2 2 s

/-- LD SP,n16 (R221). -/
def exec_ld_sp_n16 (nn : Word) (s : State) : Result State := ldPair .sp nn s

/-- LD (HL-),A (R220). -/
def exec_ld_atHLdec_a (s : State) : Result State := ldStepHLA (-1) s

/-- LD (HL),n8 (R206). -/
def exec_ld_atHL_n8 (n : Byte) (s : State) : Result State := ldStore s.cpu.hl n 2 3 s

/-- LD A,(HL-) (R218). -/
def exec_ld_a_atHLdec (s : State) : Result State := ldAStepHL (-1) s

/-- LD A,n8 (R203). -/
def exec_ld_a_n8 (n : Byte) (s : State) : Result State := ldReg .a (.imm n) 2 2 s

/-- LD B,B (R202). -/
def exec_ld_b_b (s : State) : Result State := ldReg .b (.reg .b) 1 1 s

/-- LD B,C (R202). -/
def exec_ld_b_c (s : State) : Result State := ldReg .b (.reg .c) 1 1 s

/-- LD B,D (R202). -/
def exec_ld_b_d (s : State) : Result State := ldReg .b (.reg .d) 1 1 s

/-- LD B,E (R202). -/
def exec_ld_b_e (s : State) : Result State := ldReg .b (.reg .e) 1 1 s

/-- LD B,H (R202). -/
def exec_ld_b_h (s : State) : Result State := ldReg .b (.reg .h) 1 1 s

/-- LD B,L (R202). -/
def exec_ld_b_l (s : State) : Result State := ldReg .b (.reg .l) 1 1 s

/-- LD B,(HL) (R204). -/
def exec_ld_b_atHL (s : State) : Result State := ldReg .b .atHL 1 2 s

/-- LD B,A (R202). -/
def exec_ld_b_a (s : State) : Result State := ldReg .b (.reg .a) 1 1 s

/-- LD C,B (R202). -/
def exec_ld_c_b (s : State) : Result State := ldReg .c (.reg .b) 1 1 s

/-- LD C,C (R202). -/
def exec_ld_c_c (s : State) : Result State := ldReg .c (.reg .c) 1 1 s

/-- LD C,D (R202). -/
def exec_ld_c_d (s : State) : Result State := ldReg .c (.reg .d) 1 1 s

/-- LD C,E (R202). -/
def exec_ld_c_e (s : State) : Result State := ldReg .c (.reg .e) 1 1 s

/-- LD C,H (R202). -/
def exec_ld_c_h (s : State) : Result State := ldReg .c (.reg .h) 1 1 s

/-- LD C,L (R202). -/
def exec_ld_c_l (s : State) : Result State := ldReg .c (.reg .l) 1 1 s

/-- LD C,(HL) (R204). -/
def exec_ld_c_atHL (s : State) : Result State := ldReg .c .atHL 1 2 s

/-- LD C,A (R202). -/
def exec_ld_c_a (s : State) : Result State := ldReg .c (.reg .a) 1 1 s

/-- LD D,B (R202). -/
def exec_ld_d_b (s : State) : Result State := ldReg .d (.reg .b) 1 1 s

/-- LD D,C (R202). -/
def exec_ld_d_c (s : State) : Result State := ldReg .d (.reg .c) 1 1 s

/-- LD D,D (R202). -/
def exec_ld_d_d (s : State) : Result State := ldReg .d (.reg .d) 1 1 s

/-- LD D,E (R202). -/
def exec_ld_d_e (s : State) : Result State := ldReg .d (.reg .e) 1 1 s

/-- LD D,H (R202). -/
def exec_ld_d_h (s : State) : Result State := ldReg .d (.reg .h) 1 1 s

/-- LD D,L (R202). -/
def exec_ld_d_l (s : State) : Result State := ldReg .d (.reg .l) 1 1 s

/-- LD D,(HL) (R204). -/
def exec_ld_d_atHL (s : State) : Result State := ldReg .d .atHL 1 2 s

/-- LD D,A (R202). -/
def exec_ld_d_a (s : State) : Result State := ldReg .d (.reg .a) 1 1 s

/-- LD E,B (R202). -/
def exec_ld_e_b (s : State) : Result State := ldReg .e (.reg .b) 1 1 s

/-- LD E,C (R202). -/
def exec_ld_e_c (s : State) : Result State := ldReg .e (.reg .c) 1 1 s

/-- LD E,D (R202). -/
def exec_ld_e_d (s : State) : Result State := ldReg .e (.reg .d) 1 1 s

/-- LD E,E (R202). -/
def exec_ld_e_e (s : State) : Result State := ldReg .e (.reg .e) 1 1 s

/-- LD E,H (R202). -/
def exec_ld_e_h (s : State) : Result State := ldReg .e (.reg .h) 1 1 s

/-- LD E,L (R202). -/
def exec_ld_e_l (s : State) : Result State := ldReg .e (.reg .l) 1 1 s

/-- LD E,(HL) (R204). -/
def exec_ld_e_atHL (s : State) : Result State := ldReg .e .atHL 1 2 s

/-- LD E,A (R202). -/
def exec_ld_e_a (s : State) : Result State := ldReg .e (.reg .a) 1 1 s

/-- LD H,B (R202). -/
def exec_ld_h_b (s : State) : Result State := ldReg .h (.reg .b) 1 1 s

/-- LD H,C (R202). -/
def exec_ld_h_c (s : State) : Result State := ldReg .h (.reg .c) 1 1 s

/-- LD H,D (R202). -/
def exec_ld_h_d (s : State) : Result State := ldReg .h (.reg .d) 1 1 s

/-- LD H,E (R202). -/
def exec_ld_h_e (s : State) : Result State := ldReg .h (.reg .e) 1 1 s

/-- LD H,H (R202). -/
def exec_ld_h_h (s : State) : Result State := ldReg .h (.reg .h) 1 1 s

/-- LD H,L (R202). -/
def exec_ld_h_l (s : State) : Result State := ldReg .h (.reg .l) 1 1 s

/-- LD H,(HL) (R204). -/
def exec_ld_h_atHL (s : State) : Result State := ldReg .h .atHL 1 2 s

/-- LD H,A (R202). -/
def exec_ld_h_a (s : State) : Result State := ldReg .h (.reg .a) 1 1 s

/-- LD L,B (R202). -/
def exec_ld_l_b (s : State) : Result State := ldReg .l (.reg .b) 1 1 s

/-- LD L,C (R202). -/
def exec_ld_l_c (s : State) : Result State := ldReg .l (.reg .c) 1 1 s

/-- LD L,D (R202). -/
def exec_ld_l_d (s : State) : Result State := ldReg .l (.reg .d) 1 1 s

/-- LD L,E (R202). -/
def exec_ld_l_e (s : State) : Result State := ldReg .l (.reg .e) 1 1 s

/-- LD L,H (R202). -/
def exec_ld_l_h (s : State) : Result State := ldReg .l (.reg .h) 1 1 s

/-- LD L,L (R202). -/
def exec_ld_l_l (s : State) : Result State := ldReg .l (.reg .l) 1 1 s

/-- LD L,(HL) (R204). -/
def exec_ld_l_atHL (s : State) : Result State := ldReg .l .atHL 1 2 s

/-- LD L,A (R202). -/
def exec_ld_l_a (s : State) : Result State := ldReg .l (.reg .a) 1 1 s

/-- LD (HL),B (R205). -/
def exec_ld_atHL_b (s : State) : Result State := ldStore s.cpu.hl s.cpu.b 1 2 s

/-- LD (HL),C (R205). -/
def exec_ld_atHL_c (s : State) : Result State := ldStore s.cpu.hl s.cpu.c 1 2 s

/-- LD (HL),D (R205). -/
def exec_ld_atHL_d (s : State) : Result State := ldStore s.cpu.hl s.cpu.d 1 2 s

/-- LD (HL),E (R205). -/
def exec_ld_atHL_e (s : State) : Result State := ldStore s.cpu.hl s.cpu.e 1 2 s

/-- LD (HL),H (R205). -/
def exec_ld_atHL_h (s : State) : Result State := ldStore s.cpu.hl s.cpu.h 1 2 s

/-- LD (HL),L (R205). -/
def exec_ld_atHL_l (s : State) : Result State := ldStore s.cpu.hl s.cpu.l 1 2 s

/-- LD (HL),A (R205). -/
def exec_ld_atHL_a (s : State) : Result State := ldStore s.cpu.hl s.cpu.a 1 2 s

/-- LD A,B (R202). -/
def exec_ld_a_b (s : State) : Result State := ldReg .a (.reg .b) 1 1 s

/-- LD A,C (R202). -/
def exec_ld_a_c (s : State) : Result State := ldReg .a (.reg .c) 1 1 s

/-- LD A,D (R202). -/
def exec_ld_a_d (s : State) : Result State := ldReg .a (.reg .d) 1 1 s

/-- LD A,E (R202). -/
def exec_ld_a_e (s : State) : Result State := ldReg .a (.reg .e) 1 1 s

/-- LD A,H (R202). -/
def exec_ld_a_h (s : State) : Result State := ldReg .a (.reg .h) 1 1 s

/-- LD A,L (R202). -/
def exec_ld_a_l (s : State) : Result State := ldReg .a (.reg .l) 1 1 s

/-- LD A,(HL) (R204). -/
def exec_ld_a_atHL (s : State) : Result State := ldReg .a .atHL 1 2 s

/-- LD A,A (R202). -/
def exec_ld_a_a (s : State) : Result State := ldReg .a (.reg .a) 1 1 s

/-- POP BC (R225). -/
def exec_pop_bc (s : State) : Result State := popPair .bc s

/-- PUSH BC (R224). -/
def exec_push_bc (s : State) : Result State := pushPair .bc s

/-- POP DE (R225). -/
def exec_pop_de (s : State) : Result State := popPair .de s

/-- PUSH DE (R224). -/
def exec_push_de (s : State) : Result State := pushPair .de s

/-- LDH (n8),A (R214). -/
def exec_ldh_atN8_a (n : Byte) (s : State) : Result State := ldStore (highPage n) s.cpu.a 2 3 s

/-- POP HL (R225). -/
def exec_pop_hl (s : State) : Result State := popPair .hl s

/-- LD (C),A (R216). -/
def exec_ld_atC_a (s : State) : Result State := ldStore (highPage s.cpu.c) s.cpu.a 1 2 s

/-- PUSH HL (R224). -/
def exec_push_hl (s : State) : Result State := pushPair .hl s

/-- LD (n16),A (R212). -/
def exec_ld_atN16_a (nn : Word) (s : State) : Result State := ldStore nn s.cpu.a 3 4 s

/-- LDH A,(n8) (R213). -/
def exec_ldh_a_atN8 (n : Byte) (s : State) : Result State := ldAFrom (highPage n) 2 3 s

/-- POP AF (R225). -/
def exec_pop_af (s : State) : Result State := popPair .af s

/-- LD A,(C) (R215). -/
def exec_ld_a_atC (s : State) : Result State := ldAFrom (highPage s.cpu.c) 1 2 s

/-- PUSH AF (R224). -/
def exec_push_af (s : State) : Result State := pushPair .af s

/-- LD SP,HL (R223). -/
def exec_ld_sp_hl (s : State) : Result State := ldSPHL s

/-- LD A,(n16) (R211). -/
def exec_ld_a_atN16 (nn : Word) (s : State) : Result State := ldAFrom nn 3 4 s

end Sys2Proof.Machine
end

