-- ==== Sys2Proof/Machine/System.lean ====
section
/-! DEFINITION. System instructions and the bytes that are not instructions (45_system.md): the shared
forms, then one meaning for each row. -/

namespace Sys2Proof.Machine

/-- IME <- v (R403, R404). -/
def setMaster (v : Bool) (s : State) : Result State :=
  .next ((s.setIME v).retire (s.nextPC 1) 1)

/-- HALT: W <- never, and PC <- nextPC; no cycle is charged (R136, R401). -/
def haltCpu (s : State) : Result State :=
  .next { s with cpu := { s.cpu with pc := s.nextPC 1, wake := none } }

/-- The fault of a byte that is not an instruction: recorded with the cycle, the PC and the byte, and
nothing else changes (R405, R518, R519). -/
def illegalByte (opcode : Byte) (s : State) : Result State :=
  .next (s.raiseFatal (.illegalOpcode s.cycle s.cpu.pc opcode))

/-- NOP (R400). -/
def exec_nop (s : State) : Result State := .next (s.retire (s.nextPC 1) 1)

/-- STOP (R402). -/
def exec_stop (_n : Byte) (s : State) : Result State :=
  .next (s.raiseFatal (.stopUnsupported s.cycle s.cpu.pc 0x10))

/-- HALT (R401). -/
def exec_halt (s : State) : Result State := haltCpu s

/-- DI (R403). -/
def exec_di (s : State) : Result State := setMaster false s

/-- EI (R404). -/
def exec_ei (s : State) : Result State := setMaster true s

/-- The unused byte 0xD3 (R405). -/
def exec_illegal_d3 (s : State) : Result State := illegalByte 0xD3 s

/-- The unused byte 0xDB (R405). -/
def exec_illegal_db (s : State) : Result State := illegalByte 0xDB s

/-- The unused byte 0xDD (R405). -/
def exec_illegal_dd (s : State) : Result State := illegalByte 0xDD s

/-- The unused byte 0xE3 (R405). -/
def exec_illegal_e3 (s : State) : Result State := illegalByte 0xE3 s

/-- The unused byte 0xE4 (R405). -/
def exec_illegal_e4 (s : State) : Result State := illegalByte 0xE4 s

/-- The unused byte 0xEB (R405). -/
def exec_illegal_eb (s : State) : Result State := illegalByte 0xEB s

/-- The unused byte 0xEC (R405). -/
def exec_illegal_ec (s : State) : Result State := illegalByte 0xEC s

/-- The unused byte 0xED (R405). -/
def exec_illegal_ed (s : State) : Result State := illegalByte 0xED s

/-- The unused byte 0xF4 (R405). -/
def exec_illegal_f4 (s : State) : Result State := illegalByte 0xF4 s

/-- The unused byte 0xFC (R405). -/
def exec_illegal_fc (s : State) : Result State := illegalByte 0xFC s

/-- The unused byte 0xFD (R405). -/
def exec_illegal_fd (s : State) : Result State := illegalByte 0xFD s

end Sys2Proof.Machine
end

