-- ==== Sys2Proof/Machine/Tick.lean ====
section
/-! DEFINITION. The tick: the OAM DMA engine, the LCD step, the fetch and the CPU step
(60_exceptions.md sections 1 and 4.2). -/

namespace Sys2Proof.Machine

/-- The address `DMA_SRC * 256 + DMA_IDX` the DMA engine reads (R560). -/
def dmaAddress (v : Lcd) : Word := BitVec.ofNat 16 (v.dmaSrc.toNat * 256 + v.dmaIdx)

/-- `DmaStep()`: one byte a tick, read through the bus and written to OAM directly (R560). -/
def dmaStep (s : State) : State :=
  if s.lcd.dmaActive then
    { s with lcd := { s.lcd with
        oam := s.lcd.oam.write s.lcd.dmaIdx (s.busRead (dmaAddress s.lcd))
        dmaIdx := s.lcd.dmaIdx + 1
        dmaActive := decide (s.lcd.dmaIdx + 1 ≠ 160) } }
  else s

/-- `LcdStep(T)`: the DMA step, then the mode step (R558). -/
def lcdStep (s : State) : State := modeStep (dmaStep s)

/-- The timer's and the LCD controller's steps of a tick, in this order (R500). -/
def deviceSteps (s : State) : State := lcdStep (timerStep s)

/-- The instruction at PC, its bytes read through the bus at consecutive addresses (R128, R504). A
read has no side effect (R89), so reading three bytes for a shorter instruction changes nothing. -/
def fetchInstr (s : State) : Instr :=
  decode3 (s.busRead s.cpu.pc) (s.busRead (s.cpu.pc + 1)) (s.busRead (s.cpu.pc + 2))

/-- `Execute()` (R504). -/
def execute (s : State) : Result State := exec (fetchInstr s) s

/-- The wake-up at the start of a CPU step: a halted CPU with an enabled request pending runs in this
tick, whatever IME is (R502). -/
def wakeUp (s : State) : State :=
  if s.cpu.wake = none ∧ s.pending ≠ 0 then
    { s with cpu := { s.cpu with wake := some s.cycle } }
  else s

/-- The CPU step once it has its turn: the service of an interrupt, or one instruction (R503). -/
def serviceOrExecute (s : State) : Result State :=
  match s.serviceable with
  | some i => .next (service i s)
  | none => execute s

/-- `CpuStep(T)` (R503). -/
def cpuStep (s : State) : Result State :=
  if (wakeUp s).cpu.wake = some s.cycle then serviceOrExecute (wakeUp s) else .next (wakeUp s)

/-- `T <- T + 1` (R500). -/
def State.advanceCycle (s : State) : State := { s with cycle := s.cycle + 1 }

/-- A tick ends by counting it; a stopped CPU step stops it (R500). -/
def endTick : Result State → Result State
  | .next s => .next s.advanceCycle
  | .fault r => .fault r
  | .refused r => .refused r

/-- `Tick()`. The spec's Tick returns at once on a faulted machine, which does not step (R500, R518):
here it answers the recorded fault (assumption log 3). -/
def tick (s : State) : Result State :=
  match s.fault with
  | some r => .fault (.fatal r)
  | none => endTick (cpuStep (deviceSteps s))

/-! ### Placing an instruction where the next tick fetches it -/

/-- A byte at this address is held by a memory, so that an instruction can be placed there: ROM, video
RAM, work RAM and its echo, high RAM, and OAM while no DMA copies into it. -/
def placeable (s : State) (a : Nat) : Bool :=
  decide (a < 0xA000) || decide (0xC000 ≤ a ∧ a < 0xFE00) ||
    (decide (0xFE00 ≤ a ∧ a < 0xFEA0) && !s.lcd.dmaActive) || decide (0xFF80 ≤ a ∧ a < 0xFFFF)

/-- Puts a byte into the memory that a bus read of this address answers from, the ROM images
included: the load of a program from outside the machine (assumption log 2). -/
def placeByte (s : State) (addr : Word) (v : Byte) : State :=
  let a := addr.toNat
  if a < 0x0100 ∧ s.bootEn = true then { s with bootRom := s.bootRom.write a v }
  else if a < 0x8000 then { s with cartridge := s.cartridge.write a v }
  else s.busWrite addr v

/-- Puts the bytes of an instruction at consecutive addresses. -/
def placeBytes (s : State) (addr : Word) : List Byte → State
  | [] => s
  | v :: rest => placeBytes (placeByte s addr v) (addr + 1) rest

/-- The machine with PC where an instruction can be placed: PC stays when the three bytes there are
held by memories, and is 0xC000, work RAM, otherwise. -/
def withPlaceablePC (s : State) : State :=
  let pc := s.cpu.pc
  if placeable s pc.toNat && placeable s (pc + 1).toNat && placeable s (pc + 2).toNat then s
  else { s with cpu := { s.cpu with pc := 0xC000 } }

/-- The machine due to execute in the next tick: no fault recorded and W = T. -/
def dueNow (s : State) : State :=
  { s with cpu := { s.cpu with wake := some s.cycle }, fault := none }

/-- IME cleared if the next tick would service an interrupt instead of executing. -/
def withoutService (s : State) : State :=
  if (deviceSteps s).serviceable = none then s else s.setIME false

end Sys2Proof.Machine
end

