-- ==== Sys2Proof/Machine/Step.lean ====
section
/-! DEFINITION. One step of the machine is one tick (R500); and the placing of an instruction word
where the next step fetches. -/

namespace Sys2Proof.Machine

/-- One step: one tick of the global cycle counter (R16, R500). -/
def step (s : State) : Host.Outcome State Fault Refusal := tick s

/-- The machine with an instruction word of the opcode table stored where the next step fetches, so
that this step runs it (assumption log 2). -/
def State.withFetchWord (s : State) (nbits w : Nat) : State :=
  let t := withPlaceablePC (dueNow s)
  withoutService (placeBytes t t.cpu.pc (tableWordBytes nbits w))

end Sys2Proof.Machine
end

