-- ==== Sys2Proof/Machine/Driver.lean ====
section
/-! DEFINITION. What the host does to the machine between ticks (60_exceptions.md section 6,
70_reset_and_hazards.md R705): advancing it, key events, the outputs it may read, and the launch
options. -/

namespace Sys2Proof.Machine

/-- At most `n` ticks, stopping at a recorded fault (R601). -/
def runTicks : Nat → State → State
  | 0, s => s
  | n + 1, s =>
    match step s with
    | .next t => runTicks n t
    | .fault _ => s
    | .refused _ => s

/-- `RunUntil(c)`: an earlier cycle raises CYCLE_ORDER with `c` in its record, otherwise the cycles T to
c - 1 are processed (R601). The raise sets the fault state, whatever it holds (R518). -/
def runUntil (c : Nat) (s : State) : State :=
  if c < s.cycle then s.raiseFatal (.cycleOrder s.cycle c) else runTicks (c - s.cycle) s

/-- What the host may do between two ticks (R601, R602). -/
inductive HostEvent where
  | runUntil (c : Nat)
  | keyPressed (k : Key)
  | keyReleased (k : Key)
  deriving DecidableEq, Repr

/-- One host event (R601, R602). -/
def hostEvent (e : HostEvent) (s : State) : State :=
  match e with
  | .runUntil c => runUntil c s
  | .keyPressed k => keyPressed k s
  | .keyReleased k => keyReleased k s

/-- The frame output (R580, R603). -/
def frameOutput (s : State) : List ColorRow := s.lcd.curImage

/-- The launch options (R705). -/
inductive Launch where
  | boot | postBoot
  deriving DecidableEq, Repr

/-- POST_BOOT: the reset state with the changes of R705, LCDC = 0x91 written as a bus write in tick
0. -/
def postBoot (bootRom cartridge : Memory) : State :=
  let s := State.resetWith bootRom cartridge
  State.busWrite { s with
    cpu := { s.cpu with a := 0x01, f := 0xB0, b := 0x00, c := 0x13, d := 0x00, e := 0xD8, h := 0x01,
                        l := 0x4D, sp := 0xFFFE, pc := 0x0100 }
    bootEn := false
    lcd := { s.lcd with bgp := 0xFC } } 0xFF40 0x91

/-- The machine before tick 0 under a launch option (R700, R705). -/
def launch (o : Launch) (bootRom cartridge : Memory) : State :=
  match o with
  | .boot => State.resetWith bootRom cartridge
  | .postBoot => postBoot bootRom cartridge

end Sys2Proof.Machine
end

