-- ==== Sys2Proof/Safety.lean ====
section
/-! DEFINITION. The terms the claims use: the invariant of a state, the reachable states, what an
instruction may write, and the terms of some rules written out. -/

namespace Sys2Proof.Machine

/-! ### The invariant -/

/-- A memory of `size` bytes in its canonical form. -/
def Memory.ok (m : Memory) (size : Nat) : Bool := m.wf && m.fits size

/-- Every memory is in its canonical form and no larger than its region (R38, R54, R55, R62, R64). -/
structure State.Canonical (s : State) : Prop where
  hram : s.cpu.hram.ok 127 = true
  vram : s.lcd.vram.ok 8192 = true
  oam : s.lcd.oam.ok 160 = true
  wram : s.wram.ok 8192 = true
  bootRom : s.bootRom.ok 256 = true
  cartridge : s.cartridge.ok 32768 = true

/-- The CPU, timer, DMA engine and joypad hold legal values. -/
structure State.Legal (s : State) : Prop where
  /-- "the low 4 bits of the flag byte are always zero" (R32). -/
  flags : s.cpu.f &&& 0x0F = 0
  /-- "W ≥ T or W = never" while the machine has no fault (R501). -/
  clock : s.fault = none → ∀ w, s.cpu.wake = some w → s.cycle ≤ w
  /-- "DIVC is always a multiple of 4" (R530). -/
  divc : s.timer.divc.toNat % 4 = 0
  /-- The DMA index is 0..160, and below 160 while a copy runs (R58, R560). -/
  dma : s.lcd.dmaIdx ≤ 160 ∧ (s.lcd.dmaActive = true → s.lcd.dmaIdx < 160)
  /-- P1I reports the keys of the selected lines (R592). -/
  keys : s.joypad.p1i.extractLsb' 0 4 = s.joypad.keyBits

/-- The lines a phase can be on (R56, R561). -/
def Phase.lineOk (p : Phase) (line : Nat) : Bool :=
  match p with
  | .off => line == 0
  | .starting => line == 0
  | .mode2 => decide (line ≤ 143)
  | .mode3 => decide (line ≤ 143)
  | .mode0 => decide (line ≤ 143)
  | .mode1 => decide (144 ≤ line ∧ line ≤ 153)

/-- How many lines of the frame being built are complete in a phase; `none` when no frame is being
built (R59, R566, R568, R580). -/
def Phase.linesBuilt (p : Phase) (line : Nat) : Option Nat :=
  match p with
  | .off => none
  | .starting => none
  | .mode2 => some line
  | .mode3 => some (line + 1)
  | .mode0 => some (line + 1)
  | .mode1 => none

/-- The LCD controller's state machine is consistent. -/
structure State.LcdConsistent (s : State) : Prop where
  /-- L is `never` exactly in phase OFF (R56). -/
  scheduled : s.lcd.next = none ↔ s.lcd.phase = .off
  /-- "L ≥ T or L = never" (R501). -/
  clock : ∀ n, s.lcd.next = some n → s.cycle ≤ n
  /-- LCDC.LCD_ENABLE is 1 exactly when the LCD is powered (R46, R551, R552). -/
  power : s.lcd.lcdc.getLsbD 7 = true ↔ s.lcd.phase ≠ .off
  /-- STAT.MODE shows the phase (R56). -/
  mode : s.lcd.stat.extractLsb' 0 2 = s.lcd.phase.mode
  /-- LY is a line of the phase (R49, R561). -/
  line : s.lcd.phase.lineOk s.lcd.ly.toNat = true
  /-- The frame being built holds the lines completed so far (R59). -/
  frame : s.lcd.frameBuf.map List.length = s.lcd.phase.linesBuilt s.lcd.ly.toNat
  /-- Every completed line is 160 pixels wide (R570). -/
  width : ∀ lines, s.lcd.frameBuf = some lines → ∀ ln ∈ lines, ln.length = Config.screenWidth
  /-- CUR_IMAGE is 160 x 144 pixels (R59). -/
  image : s.lcd.curImage.length = Config.screenHeight ∧
    ∀ row ∈ s.lcd.curImage, row.length = Config.screenWidth

/-- The invariant of the machine. -/
structure State.Inv (s : State) : Prop where
  canonical : s.Canonical
  legal : s.Legal
  lcd : s.LcdConsistent

/-! ### Runs -/

/-- The machine has not faulted: its run is safe so far (R41, R518). -/
def State.running (s : State) : Prop := s.fault = none

/-- The states a machine can be in between two ticks: after a launch with two images, after a step,
and after a host event (R500, R600 to R602, R700, R705). -/
inductive Reachable : State → Prop where
  | launched (o : Launch) (bootRom cartridge : Memory) (hb : bootRom.ok 256 = true)
      (hc : cartridge.ok 32768 = true) : Reachable (launch o bootRom cartridge)
  | stepped (s t : State) (h : Reachable s) (hs : step s = .next t) : Reachable t
  | hosted (s : State) (e : HostEvent) (h : Reachable s) : Reachable (hostEvent e s)

/-! ### What an instruction may write -/

/-- The two bytes of the stack slot a push writes (R200). -/
def pushSlot (s : State) : List Word := [s.cpu.sp - 2, s.cpu.sp - 2 + 1]

/-- The addresses an unprefixed opcode stores to, when its operands give the address `nn` or the high
page `hp` (R200, R205, R206, R209, R210, R212, R214, R216, R219, R220, R222, R224, R275, R277, R375,
R376, R380). -/
def plainStores (op : Nat) (nn hp : Word) (s : State) : List Word :=
  match op with
  | 0x02 => [s.cpu.pair .bc]
  | 0x12 => [s.cpu.pair .de]
  | 0x22 => [s.cpu.hl]
  | 0x32 => [s.cpu.hl]
  | 0x34 => [s.cpu.hl]
  | 0x35 => [s.cpu.hl]
  | 0x36 => [s.cpu.hl]
  | 0x70 => [s.cpu.hl]
  | 0x71 => [s.cpu.hl]
  | 0x72 => [s.cpu.hl]
  | 0x73 => [s.cpu.hl]
  | 0x74 => [s.cpu.hl]
  | 0x75 => [s.cpu.hl]
  | 0x77 => [s.cpu.hl]
  | 0x08 => [nn, nn + 1]
  | 0xEA => [nn]
  | 0xE0 => [hp]
  | 0xE2 => [highPage s.cpu.c]
  | 0xC4 => if condHolds .nz s.cpu then pushSlot s else []
  | 0xCC => if condHolds .z s.cpu then pushSlot s else []
  | 0xD4 => if condHolds .nc s.cpu then pushSlot s else []
  | 0xDC => if condHolds .c s.cpu then pushSlot s else []
  | 0xCD => pushSlot s
  | _ => if 0xC0 ≤ op ∧ (op % 16 = 5 ∨ op % 8 = 7) then pushSlot s else []

/-- The addresses an instruction's own stores go to, in a given state: those of its opcode, with the
immediates of its encoding; on the prefixed page, HL for every (HL) form but BIT (R335 to R349, R353,
R355). -/
def storedBytes (i : Instr) (s : State) : List Word :=
  match encode i with
  | [] => []
  | [b0] => plainStores b0.toNat 0 0 s
  | [b0, b1] =>
    if b0 = 0xCB then (if b1.toNat % 8 = 6 ∧ b1.toNat / 64 ≠ 1 then [s.cpu.hl] else [])
    else plainStores b0.toNat 0 (highPage b1) s
  | b0 :: b1 :: b2 :: _ => plainStores b0.toNat (word16 b2 b1) 0 s

/-- A bus write at `w` can change what a read at `a` returns: the byte itself, its other window
(R76), or a register that a write of a register also changes (R90). -/
def touches (w a : Word) : Bool :=
  a == w
  || (decide (0xC000 ≤ w.toNat ∧ w.toNat < 0xDE00) && a == w + 0x2000)
  || (decide (0xE000 ≤ w.toNat ∧ w.toNat < 0xFE00) && a == w - 0x2000)
  || (w == 0xFF00 && a == 0xFF0F)
  || ((w == 0xFF04 || w == 0xFF07) && (a == 0xFF05 || a == 0xFF0F))
  || (w == 0xFF40 && (a == 0xFF41 || a == 0xFF44 || a == 0xFF0F))
  || (w == 0xFF45 && (a == 0xFF41 || a == 0xFF0F))
  || (w == 0xFF50 && decide (a.toNat < 0x100))

/-- The register a 3-bit field names, if it names one (R123). -/
def fieldRegs (code : Nat) : List Reg8 :=
  match code with
  | 0 => [.b]
  | 1 => [.c]
  | 2 => [.d]
  | 3 => [.e]
  | 4 => [.h]
  | 5 => [.l]
  | 7 => [.a]
  | _ => []

/-- The registers a 2-bit field of LD rr,n16, INC rr, DEC rr names; SP is none of them (R124). -/
def fieldPairRegs (code : Nat) : List Reg8 :=
  match code with
  | 0 => [.b, .c]
  | 1 => [.d, .e]
  | 2 => [.h, .l]
  | _ => []

/-- The destination registers of an unprefixed opcode, by its fields x, y and z (R122, R130). -/
def plainDestRegs (x y z : Nat) : List Reg8 :=
  match x, z with
  | 0, 1 => if y % 2 = 0 then fieldPairRegs (y / 2) else [.h, .l]
  | 0, 2 => (if y % 2 = 1 then [.a] else []) ++ (if 4 ≤ y then [.h, .l] else [])
  | 0, 3 => fieldPairRegs (y / 2)
  | 0, 4 => fieldRegs y
  | 0, 5 => fieldRegs y
  | 0, 6 => fieldRegs y
  | 0, 7 => if y < 6 then [.a] else []
  | 1, _ => fieldRegs y
  | 2, _ => if y = 7 then [] else [.a]
  | 3, 0 => if y = 6 then [.a] else if y = 7 then [.h, .l] else []
  | 3, 1 => if y = 6 then [.a] else if y % 2 = 0 then fieldPairRegs (y / 2) else []
  | 3, 2 => if 6 ≤ y then [.a] else []
  | 3, 6 => if y = 7 then [] else [.a]
  | _, _ => []

/-- The flags an unprefixed opcode writes, as a mask of F, by its fields (R141). -/
def plainFlagMask (x y z : Nat) : Byte :=
  match x, z with
  | 0, 1 => if y % 2 = 1 then 0x70 else 0x00
  | 0, 4 => 0xE0
  | 0, 5 => 0xE0
  | 0, 7 => if y < 4 then 0xF0 else if y = 4 then 0xB0 else if y = 5 then 0x60 else 0x70
  | 2, _ => 0xF0
  | 3, 0 => if y = 5 ∨ y = 7 then 0xF0 else 0x00
  | 3, 1 => if y = 6 then 0xF0 else 0x00
  | 3, 6 => 0xF0
  | _, _ => 0x00

/-- The opcode writes SP: LD SP, INC SP, DEC SP, ADD SP, and every push and pop (R34). -/
def plainWritesSP (x y z : Nat) : Bool :=
  match x, z with
  | 0, 1 => y == 6
  | 0, 3 => y == 6 || y == 7
  | 3, 0 => decide (y < 4) || y == 5
  | 3, 1 => y != 5
  | 3, 4 => decide (y < 4)
  | 3, 5 => y == 1 || y % 2 == 0
  | 3, 7 => true
  | _, _ => false

/-- The registers of {A, B, C, D, E, H, L} an instruction may change. -/
def destRegs (i : Instr) : List Reg8 :=
  match (encode i).map BitVec.toNat with
  | [0xCB, o] => if o / 64 = 1 then [] else fieldRegs (o % 8)
  | o :: _ => plainDestRegs (o / 64) (o / 8 % 8) (o % 8)
  | [] => []

/-- The flags an instruction may change, as a mask of F. -/
def flagMask (i : Instr) : Byte :=
  match (encode i).map BitVec.toNat with
  | [0xCB, o] => if o / 64 = 0 then 0xF0 else if o / 64 = 1 then 0xE0 else 0x00
  | o :: _ => plainFlagMask (o / 64) (o / 8 % 8) (o % 8)
  | [] => 0x00

/-- The instruction may change SP. -/
def writesSP (i : Instr) : Bool :=
  match (encode i).map BitVec.toNat with
  | [0xCB, _] => false
  | o :: _ => plainWritesSP (o / 64) (o / 8 % 8) (o % 8)
  | [] => false

/-! ### Terms of the rules, written out for the claims -/

/-- What a condition code reads: F.Z clear, F.Z set, F.C clear, F.C set (R125). -/
def conditionBit (cc : Cond) (f : Byte) : Bool :=
  match cc with
  | .nz => !f.getLsbD 7
  | .z => f.getLsbD 7
  | .nc => !f.getLsbD 4
  | .c => f.getLsbD 4

/-- The tap bit of a TAC value (R45). -/
def tapOf (tac : Byte) : Nat :=
  if tac.extractLsb' 0 2 = 0 then 9
  else if tac.extractLsb' 0 2 = 1 then 3
  else if tac.extractLsb' 0 2 = 2 then 5
  else 7

/-- TimerState of a counter and a TAC value (R531). -/
def timerStateOf (divc : Word) (tac : Byte) : Bool := tac.getLsbD 2 && divc.getLsbD (tapOf tac)

/-- `s` with the timer's counter and control replaced and, on a falling edge of TimerState from `before`,
TIMA incremented, or reloaded with a TIMER request when it was 0xFF (R532). -/
def afterEdge (s : State) (before : Bool) (divc : Word) (tac : Byte) : State :=
  let u := { s with timer := { s.timer with divc := divc, tac := tac } }
  if before = true ∧ timerStateOf divc tac = false then
    if s.timer.tima = 0xFF then
      { u with timer := { u.timer with tima := s.timer.tma }
               cpu := { u.cpu with iflag := u.cpu.iflag ||| 0b00100 } }
    else { u with timer := { u.timer with tima := s.timer.tima + 1 } }
  else u

/-- `t` is `s` with LY, the phase, the mode, the match bit and the next-active cycle of a line event, with
the requests it raises, and with the frame being built, the window row and the image as given. -/
def LineEvent (s t : State) (p : Phase) (ly wline : Byte) (delay : Nat) (compared vblank stat : Prop)
    (frame : Option (List Line)) (image : List ColorRow) : Prop :=
  ∃ newStat iflag, t = { s with
      lcd := { s.lcd with phase := p, ly := ly, wline := wline, stat := newStat, frameBuf := frame
                          next := some (s.cycle + delay), curImage := image }
      cpu := { s.cpu with iflag := iflag } } ∧
    newStat.extractLsb' 0 2 = p.mode ∧ newStat.extractLsb' 3 5 = s.lcd.stat.extractLsb' 3 5 ∧
    (compared → newStat.getLsbD 2 = (ly == s.lcd.lyc)) ∧
    (¬compared → newStat.getLsbD 2 = s.lcd.stat.getLsbD 2) ∧
    (iflag.getLsbD 0 = true ↔ s.cpu.iflag.getLsbD 0 = true ∨ vblank) ∧
    (iflag.getLsbD 1 = true ↔ s.cpu.iflag.getLsbD 1 = true ∨ stat) ∧
    iflag.extractLsb' 2 3 = s.cpu.iflag.extractLsb' 2 3

/-- Pixel `x` of a line; a line has no pixel beyond its width. -/
def pixelAt (ln : Line) (x : Nat) : Pixel := ln.getD x Pixel.clear

/-- The pixel of column `col` (0..255) and row `row` (0..255) of a tile map, before the palette (R574). -/
def mapPixel (v : Lcd) (map row col : Nat) : Pixel :=
  let base := v.tileAddr (v.vram.read (map - 0x8000 + 32 * (row / 8) + col / 8))
  let lo := v.vram.read (base - 0x8000 + 2 * (row % 8))
  let hi := v.vram.read (base - 0x8000 + 2 * (row % 8) + 1)
  { lsb := lo.getLsbD (7 - col % 8), msb := hi.getLsbD (7 - col % 8)
    opa := lo.getLsbD (7 - col % 8) || hi.getLsbD (7 - col % 8) }

/-- The row of sprite `k` that line `y` shows, before a vertical flip (R577). -/
def spriteLineRow (v : Lcd) (k y : Nat) : Nat := y + 16 - (v.oam.read (4 * k)).toNat

/-- The joypad with its P1I recomputed from these select bits, and JOYPAD requested if P1I is then not
`s`'s (R592). -/
def afterSelect (s : State) (line0 line1 : BitVec 4) (select : BitVec 2) : State :=
  let keys : BitVec 4 :=
    if select = 0 then s.joypad.p1i.extractLsb' 0 4
    else (if select.getLsbD 0 then line0 else 0) ||| (if select.getLsbD 1 then line1 else 0)
  let p1i : BitVec 6 := select ++ keys
  { s with
    joypad := { line0 := line0, line1 := line1, p1i := p1i }
    cpu := { s.cpu with iflag := if p1i = s.joypad.p1i then s.cpu.iflag
                                 else s.cpu.iflag ||| 0b10000 } }

end Sys2Proof.Machine
end

