-- ==== Sys2Proof/Certificates/Slice0/Obligations.lean ====
section
/-! DEFINITION. The statements for the provers. A docstring names the rules of the spec a statement
formalises; where a clause rests on a choice of the spec (a decision D<n> of 92_eei_decisions.md) or of
this model (a row of the assumption log), the docstring says so. -/

open Sys2Proof Sys2Proof.Machine

/-! ### Reset and the register file -/

/-- Every piece of state has its value of the reset table (R701), and POST_BOOT changes exactly what
R705 lists. All values but W = 0 and the blank image are the spec's decision D4; the option POST_BOOT
is its decision D31; `State.reset` has no image loaded (assumption log 1). -/
def Obligations.ResetGivesTheTabledValues : Prop :=
  State.reset = State.resetWith [] [] ∧
  ∀ bootRom cartridge : Memory,
    let s := State.resetWith bootRom cartridge
    (∀ r, s.cpu.reg r = 0) ∧ s.cpu.f = 0 ∧ s.cpu.pc = 0 ∧ s.cpu.sp = 0 ∧ s.cpu.ime = false ∧
    s.cpu.ie = 0 ∧ s.cpu.iflag = 0 ∧ (∀ k, s.cpu.hram.read k = 0) ∧ s.cpu.wake = some 0 ∧
    s.fault = none ∧ s.timer.divc = 0 ∧ s.timer.tima = 0 ∧ s.timer.tma = 0 ∧ s.timer.tac = 0 ∧
    (∀ a : Word, 0xFF40 ≤ a.toNat ∧ a.toNat ≤ 0xFF4B → s.busRead a = 0) ∧
    (∀ k, s.lcd.vram.read k = 0) ∧ (∀ k, s.lcd.oam.read k = 0) ∧ s.lcd.phase = .off ∧
    s.lcd.next = none ∧ s.lcd.wline = 0 ∧ s.lcd.dmaActive = false ∧ s.lcd.dmaSrc = 0 ∧
    s.lcd.dmaIdx = 0 ∧ s.lcd.frameBuf = none ∧
    s.lcd.curImage = List.replicate 144 (List.replicate 160 0) ∧ s.joypad.line0 = 0 ∧
    s.joypad.line1 = 0 ∧ s.joypad.p1i = 0 ∧ s.busRead 0xFF00 = 0xFF ∧ s.busRead 0xFF04 = 0x00 ∧
    (∀ k, s.wram.read k = 0) ∧ s.bootEn = true ∧ s.bootRom = bootRom ∧ s.cartridge = cartridge ∧
    s.cycle = 0 ∧ launch .boot bootRom cartridge = s ∧
    launch .postBoot bootRom cartridge =
      { s with
        cpu := { s.cpu with a := 0x01, f := 0xB0, b := 0x00, c := 0x13, d := 0x00, e := 0xD8,
                            h := 0x01, l := 0x4D, sp := 0xFFFE, pc := 0x0100 }
        bootEn := false
        lcd := { s.lcd with bgp := 0xFC, lcdc := 0x91, phase := .starting, next := some 19 } }

/-- A register reads back what was last written to it and no other register changes (R30); the pairs
are the concatenations, high register first (R31); F keeps bits 7..4 of what is written, also through
AF, and its flags are bits 7, 6, 5 and 4 (R32). -/
def Obligations.RegistersReadBackWhatIsWritten : Prop :=
  (∀ (u : Cpu) (r q : Reg8) (v : Byte),
    (u.setReg r v).reg q = (if q = r then v else u.reg q) ∧ (u.setReg r v).f = u.f ∧
    (u.setReg r v).pc = u.pc ∧ (u.setReg r v).sp = u.sp) ∧
  (∀ u : Cpu, u.pair .bc = u.b ++ u.c ∧ u.pair .de = u.d ++ u.e ∧ u.pair .hl = u.h ++ u.l ∧
    u.pair .sp = u.sp ∧ u.stackPair .bc = u.b ++ u.c ∧ u.stackPair .de = u.d ++ u.e ∧
    u.stackPair .hl = u.h ++ u.l ∧ u.stackPair .af = u.a ++ u.f) ∧
  (∀ (u : Cpu) (p q : Pair16) (v : Word),
    (u.setPair p v).pair q = (if q = p then v else u.pair q) ∧ (u.setPair p v).a = u.a ∧
    (u.setPair p v).f = u.f) ∧
  (∀ (u : Cpu) (p q : StackPair) (v : Word),
    (u.setStackPair p v).stackPair q =
      (if q = p then (if p = .af then v &&& 0xFFF0 else v) else u.stackPair q)) ∧
  (∀ (u : Cpu) (v : Byte), u.setF v = { u with f := v &&& 0xF0 }) ∧
  (∀ u : Cpu, u.flagZ = u.f.getLsbD 7 ∧ u.flagN = u.f.getLsbD 6 ∧ u.flagH = u.f.getLsbD 5 ∧
    u.flagC = u.f.getLsbD 4)

/-! ### The bus -/

/-- A bus read returns what the address map gives (the read column of R74): IF and IE (R520), the timer
(R533), the LCD controller (R550), P1 (R594), and 0xFF where no component answers (R71). -/
def Obligations.BusReadsFollowTheAddressMap : Prop :=
  ∀ (s : State) (addr : Word),
    let a := addr.toNat
    (a < 0x0100 → s.bootEn = true → s.busRead addr = s.bootRom.read a) ∧
    (a < 0x0100 → s.bootEn = false → s.busRead addr = s.cartridge.read a) ∧
    (0x0100 ≤ a → a < 0x8000 → s.busRead addr = s.cartridge.read a) ∧
    (0x8000 ≤ a → a < 0xA000 → s.busRead addr = s.lcd.vram.read (a - 0x8000)) ∧
    (0xC000 ≤ a → a < 0xE000 → s.busRead addr = s.wram.read (a - 0xC000)) ∧
    (0xE000 ≤ a → a < 0xFE00 → s.busRead addr = s.wram.read (a - 0xE000)) ∧
    (0xFE00 ≤ a → a < 0xFEA0 → s.busRead addr = s.lcd.oam.read (a - 0xFE00)) ∧
    (0xFF80 ≤ a → a < 0xFFFF → s.busRead addr = s.cpu.hram.read (a - 0xFF80)) ∧
    ((0xA000 ≤ a ∧ a < 0xC000) ∨ (0xFEA0 ≤ a ∧ a < 0xFF00) ∨ (0xFF01 ≤ a ∧ a < 0xFF04) ∨
      (0xFF08 ≤ a ∧ a < 0xFF0F) ∨ (0xFF10 ≤ a ∧ a < 0xFF40) ∨ (0xFF4C ≤ a ∧ a < 0xFF80) →
      s.busRead addr = 0xFF) ∧
    s.busRead 0xFF00 = ~~~(0b00#2 ++ s.joypad.p1i) ∧
    s.busRead 0xFF04 = s.timer.divc.extractLsb' 8 8 ∧ s.busRead 0xFF05 = s.timer.tima ∧
    s.busRead 0xFF06 = s.timer.tma ∧ s.busRead 0xFF07 = s.timer.tac ∧
    s.busRead 0xFF0F = 0b000#3 ++ s.cpu.iflag ∧ s.busRead 0xFFFF = 0b000#3 ++ s.cpu.ie ∧
    s.busRead 0xFF40 = s.lcd.lcdc ∧ s.busRead 0xFF41 = s.lcd.stat ∧ s.busRead 0xFF42 = s.lcd.scy ∧
    s.busRead 0xFF43 = s.lcd.scx ∧ s.busRead 0xFF44 = s.lcd.ly ∧ s.busRead 0xFF45 = s.lcd.lyc ∧
    s.busRead 0xFF46 = s.lcd.dma ∧ s.busRead 0xFF47 = s.lcd.bgp ∧ s.busRead 0xFF48 = s.lcd.obp0 ∧
    s.busRead 0xFF49 = s.lcd.obp1 ∧ s.busRead 0xFF4A = s.lcd.wy ∧ s.busRead 0xFF4B = s.lcd.wx

/-- A bus write outside the device registers (the write column of R74): the cartridge (R79) and every
unmapped address (R83) ignore it, each memory stores it, work RAM and its echo are one storage (R76), IF
and IE keep five bits (R521), and 0xFF50 clears BOOT_EN (R78). -/
def Obligations.BusWritesReachTheOwningMemory : Prop :=
  ∀ (s : State) (addr : Word) (v : Byte),
    let a := addr.toNat
    (a < 0x8000 ∨ (0xA000 ≤ a ∧ a < 0xC000) ∨ (0xFEA0 ≤ a ∧ a < 0xFF00) ∨
      (0xFF01 ≤ a ∧ a < 0xFF04) ∨ (0xFF08 ≤ a ∧ a < 0xFF0F) ∨ (0xFF10 ≤ a ∧ a < 0xFF40) ∨
      (0xFF4C ≤ a ∧ a < 0xFF50) ∨ (0xFF51 ≤ a ∧ a < 0xFF80) → s.busWrite addr v = s) ∧
    (0x8000 ≤ a ∧ a < 0xA000 →
      s.busWrite addr v = { s with lcd := { s.lcd with vram := s.lcd.vram.write (a - 0x8000) v } }) ∧
    (0xC000 ≤ a ∧ a < 0xE000 →
      s.busWrite addr v = { s with wram := s.wram.write (a - 0xC000) v }) ∧
    (0xE000 ≤ a ∧ a < 0xFE00 →
      s.busWrite addr v = { s with wram := s.wram.write (a - 0xE000) v } ∧
      (s.busWrite addr v).busRead (addr - 0x2000) = v ∧
      (s.busWrite (addr - 0x2000) v).busRead addr = v) ∧
    (0xFE00 ≤ a ∧ a < 0xFEA0 →
      s.busWrite addr v = { s with lcd := { s.lcd with oam := s.lcd.oam.write (a - 0xFE00) v } }) ∧
    (0xFF80 ≤ a ∧ a < 0xFFFF →
      s.busWrite addr v = { s with cpu := { s.cpu with hram := s.cpu.hram.write (a - 0xFF80) v } }) ∧
    (a = 0xFF0F →
      s.busWrite addr v = { s with cpu := { s.cpu with iflag := v.extractLsb' 0 5 } }) ∧
    (a = 0xFFFF → s.busWrite addr v = { s with cpu := { s.cpu with ie := v.extractLsb' 0 5 } }) ∧
    (a = 0xFF50 → s.busWrite addr v = { s with bootEn := false })

/-- After a bus write, a byte stored in a memory reads back at its address, and every byte that the write
does not touch reads as before (R72, R90). `touches` names the written byte, its other window, and the
registers that a write of P1, DIV, TAC, LCDC, LYC or 0xFF50 also changes. -/
def Obligations.BusReadsAfterABusWrite : Prop :=
  (∀ (s : State) (addr : Word) (v : Byte),
    (0x8000 ≤ addr.toNat ∧ addr.toNat < 0xA000) ∨ (0xC000 ≤ addr.toNat ∧ addr.toNat < 0xFEA0) ∨
      (0xFF80 ≤ addr.toNat ∧ addr.toNat < 0xFFFF) → (s.busWrite addr v).busRead addr = v) ∧
  (∀ (s : State) (w a : Word) (v : Byte),
    touches w a = false → (s.busWrite w v).busRead a = s.busRead a)

/-- Push16 lowers SP by 2 and stores the low byte at the new SP, then the high byte above it (R200);
Pop16 reads them back in that order and raises SP by 2 (R201); a 16-bit access wraps at 0xFFFF (R86). -/
def Obligations.StackAndWordAccessesAreLittleEndian : Prop :=
  (∀ (s : State) (v : Word),
    s.push16 v =
      ({ s with cpu := { s.cpu with sp := s.cpu.sp - 2 } }.busWrite (s.cpu.sp - 2)
        (v.extractLsb' 0 8)).busWrite (s.cpu.sp - 1) (v.extractLsb' 8 8)) ∧
  (∀ s : State, s.top16 = s.busRead (s.cpu.sp + 1) ++ s.busRead s.cpu.sp ∧
    s.dropped16 = { s with cpu := { s.cpu with sp := s.cpu.sp + 2 } }) ∧
  (∀ (s : State) (a v : Word), s.busRead16 a = s.busRead (a + 1) ++ s.busRead a ∧
    s.busWrite16 a v = (s.busWrite a (v.extractLsb' 0 8)).busWrite (a + 1) (v.extractLsb' 8 8))

/-! ### Encoding -/

/-- Decoding an encoded instruction gives it back, with every operand at every value, and leaves the
bytes that follow it. -/
def Obligations.DecodingAnEncodedInstructionGivesItBack : Prop :=
  ∀ (i : Instr) (rest : List Byte), decode (encode i ++ rest) = .ok (i, rest)

/-- Each byte string has one meaning: a decoded instruction's encoding is the bytes it was decoded
from. -/
def Obligations.EncodingADecodedInstructionGivesItsBytes : Prop :=
  ∀ (bytes : List Byte) (i : Instr) (rest : List Byte),
    decode bytes = .ok (i, rest) → bytes = encode i ++ rest

/-- The first byte fixes the length, 1, 2 or 3 bytes, and 0xCB means 2 (R120): decoding succeeds exactly
when that many bytes are there, and takes exactly them. -/
def Obligations.TheFirstByteFixesTheLength : Prop :=
  decode [] = .error .empty ∧ lengthOf 0xCB = 2 ∧
  ∀ (b0 : Byte) (rest : List Byte),
    (1 ≤ lengthOf b0 ∧ lengthOf b0 ≤ 3) ∧
    (rest.length + 1 < lengthOf b0 → decode (b0 :: rest) = .error (.truncated b0)) ∧
    (lengthOf b0 ≤ rest.length + 1 →
      ∃ i, decode (b0 :: rest) = .ok (i, (b0 :: rest).drop (lengthOf b0)) ∧
        encode i = (b0 :: rest).take (lengthOf b0))

/-- The eleven bytes of R132, and no other first byte, decode to the rows named ILLEGAL. -/
def Obligations.ElevenBytesAreNotInstructions : Prop :=
  illegalRows.map Prod.fst =
    [0xD3, 0xDB, 0xDD, 0xE3, 0xE4, 0xEB, 0xEC, 0xED, 0xF4, 0xFC, 0xFD] ∧
  ∀ (b0 : Byte) (rest rest' : List Byte) (i : Instr), decode (b0 :: rest) = .ok (i, rest') →
    (i ∈ illegalRows.map Prod.snd ↔ b0 ∈ illegalRows.map Prod.fst)

/-- Words written out from the encodings of the spec's rules decode to their instructions. -/
def Obligations.SpecWordsDecodeToTheirInstructions : Prop :=
  decode [0b01001000] = .ok (.ld_c_b, []) ∧
  decode [0b00000110, 0x08] = .ok (.ld_b_n8 0x08, []) ∧
  decode [0b11111010, 0x00, 0xC1] = .ok (.ld_a_atN16 0xC100, []) ∧
  decode [0b10001000] = .ok (.adc_a_b, []) ∧
  decode [0b00001001] = .ok (.add_hl_bc, []) ∧
  decode [0b11001011, 0b01111110] = .ok (.bit_7_atHL, []) ∧
  decode [0b11011010, 0x34, 0x12] = .ok (.jp_c_n16 0x1234, []) ∧
  decode [0b11101111] = .ok (.rst_28, []) ∧
  decode [0b01110110] = .ok (.halt, [])

/-! ### Loads and stores -/

/-- LD r,r' (R202), LD r,n8 (R203) and LD r,(HL) (R204). -/
def Obligations.LoadsIntoARegister : Prop :=
  (∀ (r r' : Reg8) (s : State),
    encode (.ldRegReg r r') = [opByte 0b01 r.code r'.code] ∧
    exec (.ldRegReg r r') s = .next ((s.setReg r (s.cpu.reg r')).retire (s.cpu.pc + 1) 1)) ∧
  (∀ (r : Reg8) (n : Byte) (s : State),
    encode (.ldRegImm r n) = [opByte 0b00 r.code 0b110, n] ∧
    exec (.ldRegImm r n) s = .next ((s.setReg r n).retire (s.cpu.pc + 2) 2)) ∧
  (∀ (r : Reg8) (s : State),
    encode (.ldRegAtHL r) = [opByte 0b01 r.code 0b110] ∧
    exec (.ldRegAtHL r) s =
      .next ((s.setReg r (s.busRead (s.cpu.h ++ s.cpu.l))).retire (s.cpu.pc + 1) 2))

/-- LD (HL),r (R205), LD (HL),n8 (R206), LD (BC),A (R209), LD (DE),A (R210), LD (n16),A (R212),
LDH (n8),A (R214) and LD (C),A (R216). -/
def Obligations.StoresOfOneByte : Prop :=
  (∀ (r : Reg8) (s : State),
    encode (.ldAtHLReg r) = [opByte 0b01 0b110 r.code] ∧
    exec (.ldAtHLReg r) s =
      .next ((s.busWrite (s.cpu.h ++ s.cpu.l) (s.cpu.reg r)).retire (s.cpu.pc + 1) 2)) ∧
  (∀ (n : Byte) (s : State),
    encode (.ld_atHL_n8 n) = [0x36, n] ∧
    exec (.ld_atHL_n8 n) s =
      .next ((s.busWrite (s.cpu.h ++ s.cpu.l) n).retire (s.cpu.pc + 2) 3)) ∧
  (∀ s : State, encode .ld_atBC_a = [0x02] ∧
    exec .ld_atBC_a s =
      .next ((s.busWrite (s.cpu.b ++ s.cpu.c) s.cpu.a).retire (s.cpu.pc + 1) 2)) ∧
  (∀ s : State, encode .ld_atDE_a = [0x12] ∧
    exec .ld_atDE_a s =
      .next ((s.busWrite (s.cpu.d ++ s.cpu.e) s.cpu.a).retire (s.cpu.pc + 1) 2)) ∧
  (∀ (nn : Word) (s : State),
    encode (.ld_atN16_a nn) = [0xEA, nn.extractLsb' 0 8, nn.extractLsb' 8 8] ∧
    exec (.ld_atN16_a nn) s = .next ((s.busWrite nn s.cpu.a).retire (s.cpu.pc + 3) 4)) ∧
  (∀ (n : Byte) (s : State),
    encode (.ldh_atN8_a n) = [0xE0, n] ∧
    exec (.ldh_atN8_a n) s = .next ((s.busWrite (0xFF#8 ++ n) s.cpu.a).retire (s.cpu.pc + 2) 3)) ∧
  (∀ s : State, encode .ld_atC_a = [0xE2] ∧
    exec .ld_atC_a s = .next ((s.busWrite (0xFF#8 ++ s.cpu.c) s.cpu.a).retire (s.cpu.pc + 1) 2))

/-- LD A,(BC) (R207), LD A,(DE) (R208), LD A,(n16) (R211), LDH A,(n8) (R213) and LD A,(C) (R215). -/
def Obligations.LoadsOfTheAccumulator : Prop :=
  (∀ s : State, encode .ld_a_atBC = [0x0A] ∧
    exec .ld_a_atBC s =
      .next ((s.setReg .a (s.busRead (s.cpu.b ++ s.cpu.c))).retire (s.cpu.pc + 1) 2)) ∧
  (∀ s : State, encode .ld_a_atDE = [0x1A] ∧
    exec .ld_a_atDE s =
      .next ((s.setReg .a (s.busRead (s.cpu.d ++ s.cpu.e))).retire (s.cpu.pc + 1) 2)) ∧
  (∀ (nn : Word) (s : State),
    encode (.ld_a_atN16 nn) = [0xFA, nn.extractLsb' 0 8, nn.extractLsb' 8 8] ∧
    exec (.ld_a_atN16 nn) s = .next ((s.setReg .a (s.busRead nn)).retire (s.cpu.pc + 3) 4)) ∧
  (∀ (n : Byte) (s : State),
    encode (.ldh_a_atN8 n) = [0xF0, n] ∧
    exec (.ldh_a_atN8 n) s =
      .next ((s.setReg .a (s.busRead (0xFF#8 ++ n))).retire (s.cpu.pc + 2) 3)) ∧
  (∀ s : State, encode .ld_a_atC = [0xF2] ∧
    exec .ld_a_atC s =
      .next ((s.setReg .a (s.busRead (0xFF#8 ++ s.cpu.c))).retire (s.cpu.pc + 1) 2))

/-- LD A,(HL+) (R217), LD A,(HL-) (R218), LD (HL+),A (R219) and LD (HL-),A (R220): the address is the
old HL, and HL moves by one. -/
def Obligations.LoadsAndStoresThatStepHL : Prop :=
  ∀ s : State,
    let a := s.cpu.h ++ s.cpu.l
    encode .ld_a_atHLinc = [0x2A] ∧
    exec .ld_a_atHLinc s =
      .next (((s.setReg .a (s.busRead a)).setHL (a + 1)).retire (s.cpu.pc + 1) 2) ∧
    encode .ld_a_atHLdec = [0x3A] ∧
    exec .ld_a_atHLdec s =
      .next (((s.setReg .a (s.busRead a)).setHL (a - 1)).retire (s.cpu.pc + 1) 2) ∧
    encode .ld_atHLinc_a = [0x22] ∧
    exec .ld_atHLinc_a s =
      .next (((s.busWrite a s.cpu.a).setHL (a + 1)).retire (s.cpu.pc + 1) 2) ∧
    encode .ld_atHLdec_a = [0x32] ∧
    exec .ld_atHLdec_a s =
      .next (((s.busWrite a s.cpu.a).setHL (a - 1)).retire (s.cpu.pc + 1) 2)

/-- LD rr,n16 (R221), LD (n16),SP (R222) and LD SP,HL (R223). -/
def Obligations.SixteenBitLoads : Prop :=
  (∀ (p : Pair16) (nn : Word) (s : State),
    encode (.ldPairImm p nn) =
      [opBytePQ 0b00 p.code 0b0 0b001, nn.extractLsb' 0 8, nn.extractLsb' 8 8] ∧
    exec (.ldPairImm p nn) s =
      .next (State.retire { s with cpu := s.cpu.setPair p nn } (s.cpu.pc + 3) 3)) ∧
  (∀ (nn : Word) (s : State),
    encode (.ld_atN16_sp nn) = [0x08, nn.extractLsb' 0 8, nn.extractLsb' 8 8] ∧
    exec (.ld_atN16_sp nn) s =
      .next (((s.busWrite nn (s.cpu.sp.extractLsb' 0 8)).busWrite (nn + 1)
        (s.cpu.sp.extractLsb' 8 8)).retire (s.cpu.pc + 3) 5)) ∧
  (∀ s : State, encode .ld_sp_hl = [0xF9] ∧
    exec .ld_sp_hl s = .next ((s.setSP (s.cpu.h ++ s.cpu.l)).retire (s.cpu.pc + 1) 2))

/-- PUSH rr (R224) and POP rr (R225): PUSH AF stores F as it is, POP AF stores the low byte's bits 7..4
in F. -/
def Obligations.PushAndPop : Prop :=
  (∀ (p : StackPair) (s : State),
    encode (.push p) = [opBytePQ 0b11 p.code 0b0 0b101] ∧
    exec (.push p) s =
      .next ((((s.setSP (s.cpu.sp - 2)).busWrite (s.cpu.sp - 2)
        ((s.cpu.stackPair p).extractLsb' 0 8)).busWrite (s.cpu.sp - 1)
        ((s.cpu.stackPair p).extractLsb' 8 8)).retire (s.cpu.pc + 1) 4)) ∧
  (∀ (p : StackPair) (s : State),
    let v := s.busRead (s.cpu.sp + 1) ++ s.busRead s.cpu.sp
    let u := s.setSP (s.cpu.sp + 2)
    encode (.pop p) = [opBytePQ 0b11 p.code 0b0 0b001] ∧
    exec (.pop p) s =
      .next (State.retire { u with cpu := u.cpu.setStackPair p v } (s.cpu.pc + 1) 3))

/-! ### 8-bit arithmetic and logic -/

/-- The ALU's functions add (R241), sub (R242), and (R243), or (R244), xor (R245) and bcdAdjust (R247),
and which of them each of the eight operations on A computes. -/
def Obligations.AluFunctionsComputeTheirFormulas : Prop :=
  (∀ (l r : Byte) (c0 : Bool),
    let res := alu8Add l r c0
    let sum := l.toNat + r.toNat + c0.toNat
    res.v.toNat = sum % 256 ∧ (res.z = true ↔ res.v = 0) ∧ res.n = false ∧
    (res.h = true ↔ l.toNat % 16 + r.toNat % 16 + c0.toNat > 0xF) ∧ (res.c = true ↔ sum > 0xFF)) ∧
  (∀ (l r : Byte) (b0 : Bool),
    let res := alu8Sub l r b0
    (res.v.toNat : Int) = ((l.toNat : Int) - r.toNat - b0.toNat) % 256 ∧
    (res.z = true ↔ res.v = 0) ∧ res.n = true ∧
    (res.h = true ↔ l.toNat % 16 < r.toNat % 16 + b0.toNat) ∧
    (res.c = true ↔ l.toNat < r.toNat + b0.toNat)) ∧
  (∀ l r : Byte,
    alu8And l r =
      { v := l &&& r, z := decide (l &&& r = 0), n := false, h := true, c := false } ∧
    alu8Or l r =
      { v := l ||| r, z := decide (l ||| r = 0), n := false, h := false, c := false } ∧
    alu8Xor l r =
      { v := l ^^^ r, z := decide (l ^^^ r = 0), n := false, h := false, c := false }) ∧
  (∀ (v : Byte) (n h c : Bool),
    let res := bcdAdjust v n h c
    let fixL := h || (!n && decide (v.toNat % 16 > 9))
    let fixH := c || (!n && decide (v.toNat > 0x99))
    let fix : Int := 0x60 * fixH.toNat + 0x06 * fixL.toNat
    (res.v.toNat : Int) = (if n then v.toNat - fix else v.toNat + fix) % 256 ∧
    (res.z = true ↔ res.v = 0) ∧ res.n = n ∧ res.h = false ∧ res.c = fixH) ∧
  (∀ (l r : Byte) (c : Bool),
    aluCompute .add l r c = alu8Add l r false ∧ aluCompute .adc l r c = alu8Add l r c ∧
    aluCompute .sub l r c = alu8Sub l r false ∧ aluCompute .sbc l r c = alu8Sub l r c ∧
    aluCompute .and l r c = alu8And l r ∧ aluCompute .xor l r c = alu8Xor l r ∧
    aluCompute .or l r c = alu8Or l r ∧ aluCompute .cp l r c = alu8Sub l r false)

/-- ADD, ADC, SUB, SBC, AND, XOR, OR and CP of A and a register (R250, R253, R256, R259, R262, R265,
R268, R271): A takes the result, except in CP, and F all four flags; ADC and SBC use the old F.C. -/
def Obligations.AluOperationsWithARegister : Prop :=
  ∀ (op : AluOp) (r : Reg8) (s : State),
    let res := aluCompute op s.cpu.a (s.cpu.reg r) (s.cpu.f.getLsbD 4)
    encode (.aluReg op r) = [opByte 0b10 op.code r.code] ∧
    exec (.aluReg op r) s =
      .next (((if op = .cp then s else s.setReg .a res.v).setF
        (packFlags res.z res.n res.h res.c)).retire (s.cpu.pc + 1) 1)

/-- The eight operations of A and an immediate byte (R251, R254, R257, R260, R263, R266, R269, R272). -/
def Obligations.AluOperationsWithAnImmediate : Prop :=
  ∀ (op : AluOp) (n : Byte) (s : State),
    let res := aluCompute op s.cpu.a n (s.cpu.f.getLsbD 4)
    encode (.aluImm op n) = [opByte 0b11 op.code 0b110, n] ∧
    exec (.aluImm op n) s =
      .next (((if op = .cp then s else s.setReg .a res.v).setF
        (packFlags res.z res.n res.h res.c)).retire (s.cpu.pc + 2) 2)

/-- The eight operations of A and the byte at HL (R252, R255, R258, R261, R264, R267, R270, R273). -/
def Obligations.AluOperationsWithMemory : Prop :=
  ∀ (op : AluOp) (s : State),
    let res := aluCompute op s.cpu.a (s.busRead (s.cpu.h ++ s.cpu.l)) (s.cpu.f.getLsbD 4)
    encode (.aluAtHL op) = [opByte 0b10 op.code 0b110] ∧
    exec (.aluAtHL op) s =
      .next (((if op = .cp then s else s.setReg .a res.v).setF
        (packFlags res.z res.n res.h res.c)).retire (s.cpu.pc + 1) 2)

/-- INC and DEC of a register (R274, R276) and of the byte at HL (R275, R277): Z and H from the old
value (R246), N set by DEC alone, C kept. -/
def Obligations.IncrementAndDecrement : Prop :=
  (∀ (r : Reg8) (s : State),
    let v := s.cpu.reg r
    encode (.incReg r) = [opByte 0b00 r.code 0b100] ∧
    exec (.incReg r) s =
      .next (((s.setReg r (v + 1)).setF (packFlags (v == 0xFF) false
        (decide (v.toNat % 16 = 0xF)) (s.cpu.f.getLsbD 4))).retire (s.cpu.pc + 1) 1) ∧
    encode (.decReg r) = [opByte 0b00 r.code 0b101] ∧
    exec (.decReg r) s =
      .next (((s.setReg r (v - 1)).setF (packFlags (v == 0x01) true
        (decide (v.toNat % 16 = 0x0)) (s.cpu.f.getLsbD 4))).retire (s.cpu.pc + 1) 1)) ∧
  (∀ s : State,
    let a := s.cpu.h ++ s.cpu.l
    let v := s.busRead a
    encode .inc_atHL = [0x34] ∧
    exec .inc_atHL s =
      .next (((s.busWrite a (v + 1)).setF (packFlags (v == 0xFF) false
        (decide (v.toNat % 16 = 0xF)) (s.cpu.f.getLsbD 4))).retire (s.cpu.pc + 1) 3) ∧
    encode .dec_atHL = [0x35] ∧
    exec .dec_atHL s =
      .next (((s.busWrite a (v - 1)).setF (packFlags (v == 0x01) true
        (decide (v.toNat % 16 = 0x0)) (s.cpu.f.getLsbD 4))).retire (s.cpu.pc + 1) 3))

/-- DAA (R278), CPL (R279), SCF (R280) and CCF (R281). -/
def Obligations.DecimalAdjustComplementAndCarry : Prop :=
  ∀ s : State,
    let z := s.cpu.f.getLsbD 7
    let n := s.cpu.f.getLsbD 6
    let c := s.cpu.f.getLsbD 4
    let daa := bcdAdjust s.cpu.a n (s.cpu.f.getLsbD 5) c
    encode .daa = [0x27] ∧
    exec .daa s =
      .next (((s.setReg .a daa.v).setF (packFlags daa.z n false daa.c)).retire (s.cpu.pc + 1) 1) ∧
    encode .cpl = [0x2F] ∧
    exec .cpl s =
      .next (((s.setReg .a (~~~s.cpu.a)).setF (packFlags z true true c)).retire (s.cpu.pc + 1) 1) ∧
    encode .scf = [0x37] ∧
    exec .scf s = .next ((s.setF (packFlags z false false true)).retire (s.cpu.pc + 1) 1) ∧
    encode .ccf = [0x3F] ∧
    exec .ccf s = .next ((s.setF (packFlags z false false !c)).retire (s.cpu.pc + 1) 1)

/-! ### 16-bit arithmetic -/

/-- INC rr (R302), DEC rr (R303), ADD HL,rr (R304), ADD SP,e8 (R305) and LD HL,SP+e8 (R306): ADD HL takes
H and C out of bits 11 and 15 (R301), the other two out of bits 3 and 7 (R300). -/
def Obligations.SixteenBitArithmetic : Prop :=
  (∀ (p : Pair16) (s : State),
    let x := s.cpu.pair p
    encode (.incPair p) = [opBytePQ 0b00 p.code 0b0 0b011] ∧
    exec (.incPair p) s =
      .next (State.retire { s with cpu := s.cpu.setPair p (x + 1) } (s.cpu.pc + 1) 2) ∧
    encode (.decPair p) = [opBytePQ 0b00 p.code 0b1 0b011] ∧
    exec (.decPair p) s =
      .next (State.retire { s with cpu := s.cpu.setPair p (x - 1) } (s.cpu.pc + 1) 2)) ∧
  (∀ (p : Pair16) (s : State),
    let x := s.cpu.pair p
    let hl := s.cpu.h ++ s.cpu.l
    encode (.addHLPair p) = [opBytePQ 0b00 p.code 0b1 0b001] ∧
    exec (.addHLPair p) s =
      .next (((s.setHL (hl + x)).setF (packFlags (s.cpu.f.getLsbD 7) false
        (decide (hl.toNat % 4096 + x.toNat % 4096 > 0xFFF))
        (decide (hl.toNat + x.toNat > 0xFFFF)))).retire (s.cpu.pc + 1) 2)) ∧
  (∀ (e : Byte) (s : State),
    let sp := s.cpu.sp
    let f := packFlags false false (decide (sp.toNat % 16 + e.toNat % 16 > 0xF))
      (decide (sp.toNat % 256 + e.toNat > 0xFF))
    encode (.add_sp_e8 e) = [0xE8, e] ∧
    exec (.add_sp_e8 e) s =
      .next (((s.setSP (sp + e.signExtend 16)).setF f).retire (s.cpu.pc + 2) 4) ∧
    encode (.ld_hl_sp_e8 e) = [0xF8, e] ∧
    exec (.ld_hl_sp_e8 e) s =
      .next (((s.setHL (sp + e.signExtend 16)).setF f).retire (s.cpu.pc + 2) 3))

/-! ### Rotates, shifts and bits -/

/-- The rotate, shift and swap functions (R320 to R325), as the eight operations of the prefixed page use
them: the value, and the bit ejected into the carry; Z from the value, N and H clear. -/
def Obligations.ShiftFunctionsComputeTheirFormulas : Prop :=
  ∀ (v : Byte) (cin : Bool),
    let low : Byte := if cin then 0x01 else 0x00
    let high : Byte := if cin then 0x80 else 0x00
    let result (r : Byte) (out : Bool) : AluResult 8 :=
      { v := r, z := decide (r = 0), n := false, h := false, c := out }
    rotCompute .rlc v cin = result (v.rotateLeft 1) (v.getLsbD 7) ∧
    rotCompute .rrc v cin = result (v.rotateRight 1) (v.getLsbD 0) ∧
    rotCompute .rl v cin = result ((v <<< 1) ||| low) (v.getLsbD 7) ∧
    rotCompute .rr v cin = result ((v >>> 1) ||| high) (v.getLsbD 0) ∧
    rotCompute .sla v cin = result (v <<< 1) (v.getLsbD 7) ∧
    rotCompute .sra v cin = result (v.sshiftRight 1) (v.getLsbD 0) ∧
    rotCompute .swap v cin = result (v.rotateLeft 4) false ∧
    rotCompute .srl v cin = result (v >>> 1) (v.getLsbD 0)

/-- RLCA (R330), RRCA (R331), RLA (R332) and RRA (R333): Z, N and H are cleared whatever the result. -/
def Obligations.AccumulatorRotates : Prop :=
  ∀ s : State,
    let a := s.cpu.a
    let c := s.cpu.f.getLsbD 4
    let low : Byte := if c then 0x01 else 0x00
    let high : Byte := if c then 0x80 else 0x00
    encode .rlca = [0x07] ∧
    exec .rlca s =
      .next (((s.setReg .a (a.rotateLeft 1)).setF (packFlags false false false
        (a.getLsbD 7))).retire (s.cpu.pc + 1) 1) ∧
    encode .rrca = [0x0F] ∧
    exec .rrca s =
      .next (((s.setReg .a (a.rotateRight 1)).setF (packFlags false false false
        (a.getLsbD 0))).retire (s.cpu.pc + 1) 1) ∧
    encode .rla = [0x17] ∧
    exec .rla s =
      .next (((s.setReg .a ((a <<< 1) ||| low)).setF (packFlags false false false
        (a.getLsbD 7))).retire (s.cpu.pc + 1) 1) ∧
    encode .rra = [0x1F] ∧
    exec .rra s =
      .next (((s.setReg .a ((a >>> 1) ||| high)).setF (packFlags false false false
        (a.getLsbD 0))).retire (s.cpu.pc + 1) 1)

/-- RLC, RRC, RL, RR, SLA, SRA, SWAP and SRL of a register (R334, R336, R338, R340, R342, R344, R346,
R348). -/
def Obligations.PrefixedRotatesOfARegister : Prop :=
  ∀ (op : RotOp) (r : Reg8) (s : State),
    let res := rotCompute op (s.cpu.reg r) (s.cpu.f.getLsbD 4)
    encode (.rotReg op r) = [0xCB, opByte 0b00 op.code r.code] ∧
    exec (.rotReg op r) s =
      .next (((s.setReg r res.v).setF (packFlags res.z false false res.c)).retire (s.cpu.pc + 2) 2)

/-- The same eight operations on the byte at HL (R335, R337, R339, R341, R343, R345, R347, R349). -/
def Obligations.PrefixedRotatesOfMemory : Prop :=
  ∀ (op : RotOp) (s : State),
    let a := s.cpu.h ++ s.cpu.l
    let res := rotCompute op (s.busRead a) (s.cpu.f.getLsbD 4)
    encode (.rotAtHL op) = [0xCB, opByte 0b00 op.code 0b110] ∧
    exec (.rotAtHL op) s =
      .next (((s.busWrite a res.v).setF (packFlags res.z false false res.c)).retire (s.cpu.pc + 2) 4)

/-- BIT (R350, R351), RES (R352, R353) and SET (R354, R355), with testBit (R326), resetBit and setBit
(R327): BIT writes Z from the bit, clears N, sets H and keeps C; RES and SET write no flag. -/
def Obligations.BitTestResetAndSet : Prop :=
  (∀ (b : BitVec 3) (r : Reg8) (s : State),
    let v := s.cpu.reg r
    let bit : Byte := 1#8 <<< b.toNat
    encode (.bitReg b r) = [0xCB, opByte 0b01 b r.code] ∧
    exec (.bitReg b r) s =
      .next ((s.setF (packFlags (!v.getLsbD b.toNat) false true (s.cpu.f.getLsbD 4))).retire
        (s.cpu.pc + 2) 2) ∧
    encode (.resReg b r) = [0xCB, opByte 0b10 b r.code] ∧
    exec (.resReg b r) s = .next ((s.setReg r (v &&& ~~~bit)).retire (s.cpu.pc + 2) 2) ∧
    encode (.setReg b r) = [0xCB, opByte 0b11 b r.code] ∧
    exec (.setReg b r) s = .next ((s.setReg r (v ||| bit)).retire (s.cpu.pc + 2) 2)) ∧
  (∀ (b : BitVec 3) (s : State),
    let a := s.cpu.h ++ s.cpu.l
    let v := s.busRead a
    let bit : Byte := 1#8 <<< b.toNat
    encode (.bitAtHL b) = [0xCB, opByte 0b01 b 0b110] ∧
    exec (.bitAtHL b) s =
      .next ((s.setF (packFlags (!v.getLsbD b.toNat) false true (s.cpu.f.getLsbD 4))).retire
        (s.cpu.pc + 2) 3) ∧
    encode (.resAtHL b) = [0xCB, opByte 0b10 b 0b110] ∧
    exec (.resAtHL b) s = .next ((s.busWrite a (v &&& ~~~bit)).retire (s.cpu.pc + 2) 4) ∧
    encode (.setAtHL b) = [0xCB, opByte 0b11 b 0b110] ∧
    exec (.setAtHL b) s = .next ((s.busWrite a (v ||| bit)).retire (s.cpu.pc + 2) 4))

/-! ### Jumps, calls and returns -/

/-- JP n16 (R370), JP cc,n16 (R371), JP HL (R372), JR e8 (R373) and JR cc,e8 (R374): a taken conditional
jump costs one cycle more, and a relative target counts from PC + 2. -/
def Obligations.JumpsAbsoluteAndRelative : Prop :=
  (∀ (nn : Word) (s : State),
    encode (.jp_n16 nn) = [0xC3, nn.extractLsb' 0 8, nn.extractLsb' 8 8] ∧
    exec (.jp_n16 nn) s = .next (s.retire nn 4)) ∧
  (∀ (cc : Cond) (nn : Word) (s : State),
    encode (.jpCond cc nn) =
      [opByte 0b11 (0b0#1 ++ cc.code) 0b010, nn.extractLsb' 0 8, nn.extractLsb' 8 8] ∧
    exec (.jpCond cc nn) s =
      .next (if conditionBit cc s.cpu.f then s.retire nn 4 else s.retire (s.cpu.pc + 3) 3)) ∧
  (∀ s : State, encode .jp_hl = [0xE9] ∧
    exec .jp_hl s = .next (s.retire (s.cpu.h ++ s.cpu.l) 1)) ∧
  (∀ (e : Byte) (s : State),
    encode (.jr_e8 e) = [0x18, e] ∧
    exec (.jr_e8 e) s = .next (s.retire (s.cpu.pc + 2 + e.signExtend 16) 3)) ∧
  (∀ (cc : Cond) (e : Byte) (s : State),
    encode (.jrCond cc e) = [opByte 0b00 (0b1#1 ++ cc.code) 0b000, e] ∧
    exec (.jrCond cc e) s =
      .next (if conditionBit cc s.cpu.f then s.retire (s.cpu.pc + 2 + e.signExtend 16) 3
        else s.retire (s.cpu.pc + 2) 2))

/-- CALL n16 (R375), CALL cc,n16 (R376), RST t (R380), RET (R377), RET cc (R378) and RETI (R379): a call
pushes the address of the next instruction, a return pops it, a taken conditional form costs three cycles
more, and RETI also sets IME. -/
def Obligations.CallsAndReturns : Prop :=
  (∀ (nn : Word) (s : State),
    encode (.call_n16 nn) = [0xCD, nn.extractLsb' 0 8, nn.extractLsb' 8 8] ∧
    exec (.call_n16 nn) s = .next ((s.push16 (s.cpu.pc + 3)).retire nn 6)) ∧
  (∀ (cc : Cond) (nn : Word) (s : State),
    encode (.callCond cc nn) =
      [opByte 0b11 (0b0#1 ++ cc.code) 0b100, nn.extractLsb' 0 8, nn.extractLsb' 8 8] ∧
    exec (.callCond cc nn) s =
      .next (if conditionBit cc s.cpu.f then (s.push16 (s.cpu.pc + 3)).retire nn 6
        else s.retire (s.cpu.pc + 3) 3)) ∧
  (∀ (y : BitVec 3) (s : State),
    encode (.rst y) = [opByte 0b11 y 0b111] ∧
    exec (.rst y) s =
      .next ((s.push16 (s.cpu.pc + 1)).retire (BitVec.ofNat 16 (8 * y.toNat)) 4)) ∧
  (∀ s : State,
    let target := s.busRead (s.cpu.sp + 1) ++ s.busRead s.cpu.sp
    let popped := s.setSP (s.cpu.sp + 2)
    encode .ret = [0xC9] ∧ exec .ret s = .next (popped.retire target 4) ∧
    (∀ cc : Cond, encode (.retCond cc) = [opByte 0b11 (0b0#1 ++ cc.code) 0b000] ∧
      exec (.retCond cc) s =
        .next (if conditionBit cc s.cpu.f then popped.retire target 5
          else s.retire (s.cpu.pc + 1) 2)) ∧
    encode .reti = [0xD9] ∧ exec .reti s = .next ((popped.setIME true).retire target 4))

/-! ### System instructions and faults -/

/-- NOP (R400), DI (R403) and EI (R404): one cycle, and IME takes its value at once. -/
def Obligations.NopDiAndEi : Prop :=
  ∀ s : State,
    encode .nop = [0x00] ∧ exec .nop s = .next (s.retire (s.cpu.pc + 1) 1) ∧
    encode .di = [0xF3] ∧ exec .di s = .next ((s.setIME false).retire (s.cpu.pc + 1) 1) ∧
    encode .ei = [0xFB] ∧ exec .ei s = .next ((s.setIME true).retire (s.cpu.pc + 1) 1)

/-- HALT sets the wake-up cycle to never and leaves PC after it (R401); a halted CPU runs in the first
tick whose CPU step finds IE & IF nonzero, whatever IME is, and a waiting one is not cut short (R502). -/
def Obligations.HaltAndWakeUp : Prop :=
  (∀ s : State, encode .halt = [0x76] ∧
    exec .halt s = .next { s with cpu := { s.cpu with pc := s.cpu.pc + 1, wake := none } }) ∧
  (∀ s : State, s.fault = none →
    let d := deviceSteps s
    (d.cpu.wake = none → d.cpu.ie &&& d.cpu.iflag = 0 →
      step s = .next { d with cycle := s.cycle + 1 }) ∧
    (∀ w, d.cpu.wake = some w → w ≠ s.cycle → step s = .next { d with cycle := s.cycle + 1 }) ∧
    (d.cpu.wake = none → d.cpu.ie &&& d.cpu.iflag ≠ 0 →
      step s = endTick (serviceOrExecute { d with cpu := { d.cpu with wake := some s.cycle } })) ∧
    (d.cpu.wake = some s.cycle → step s = endTick (serviceOrExecute d)))

/-- STOP (R402) and the eleven unused bytes (R405): the fault is recorded with the cycle, the PC and the
opcode byte, and nothing else changes. The record's content is the spec's decision D32; that the
recording is itself a next state is this model's choice (assumption log 3). -/
def Obligations.StopAndIllegalBytesFault : Prop :=
  (∀ (n : Byte) (s : State),
    encode (.stop n) = [0x10, n] ∧
    exec (.stop n) s =
      .next { s with fault := some (.stopUnsupported s.cycle s.cpu.pc 0x10) }) ∧
  (∀ row ∈ illegalRows, encode row.2 = [row.1] ∧
    ∀ s : State, exec row.2 s =
      .next { s with fault := some (.illegalOpcode s.cycle s.cpu.pc row.1) })

/-- Every instruction of the table runs in every state: "Every instruction may be executed at every
time" (R40). -/
def Obligations.EveryInstructionCompletesInEveryState : Prop :=
  ∀ (i : Instr) (s : State), ∃ t, exec i s = .next t

/-! ### What an instruction leaves alone -/

/-- The memory frame of every instruction: a byte that no store of the instruction touches reads as
before. `storedBytes` computes the addresses stored to; it is empty for a form that stores nothing. -/
def Obligations.InstructionsLeaveOtherBytesAlone : Prop :=
  ∀ (i : Instr) (s t : State), exec i s = .next t →
    ∀ a : Word, (∀ w ∈ storedBytes i s, touches w a = false) → t.busRead a = s.busRead a

/-- The register frame of every instruction: the registers, flags, SP, IME and devices that it does not
write are unchanged; it never changes the images or T; only STOP and the unused bytes set the fault
state. -/
def Obligations.InstructionsLeaveOtherRegistersAlone : Prop :=
  ∀ (i : Instr) (s t : State), exec i s = .next t →
    (∀ r, r ∉ destRegs i → t.cpu.reg r = s.cpu.reg r) ∧
    (flagMask i = 0 → t.cpu.f = s.cpu.f) ∧
    (∀ k, 4 ≤ k → k < 8 → (flagMask i).getLsbD k = false → t.cpu.f.getLsbD k = s.cpu.f.getLsbD k) ∧
    (writesSP i = false → t.cpu.sp = s.cpu.sp) ∧
    (i ≠ .ei → i ≠ .di → i ≠ .reti → t.cpu.ime = s.cpu.ime) ∧
    (storedBytes i s = [] → t.cpu.ie = s.cpu.ie ∧ t.cpu.iflag = s.cpu.iflag ∧
      t.cpu.hram = s.cpu.hram ∧ t.timer = s.timer ∧ t.lcd = s.lcd ∧ t.joypad = s.joypad ∧
      t.wram = s.wram ∧ t.bootEn = s.bootEn) ∧
    t.bootRom = s.bootRom ∧ t.cartridge = s.cartridge ∧ t.cycle = s.cycle ∧
    ((∀ n, i ≠ .stop n) → i ∉ illegalRows.map Prod.snd → t.fault = s.fault)

/-! ### The step -/

/-- A step runs the decoded instruction: when the CPU has its turn, no interrupt is serviceable and the
bytes at PC decode to an instruction, the step is the devices' part of the tick, the wake-up, that
instruction, and T + 1 (R500, R503, R504). -/
def Obligations.AStepRunsTheDecodedInstruction : Prop :=
  ∀ (s : State) (i : Instr) (rest : List Byte),
    let d := wakeUp (deviceSteps s)
    s.fault = none → d.cpu.wake = some s.cycle → d.serviceable = none →
    decode [d.busRead d.cpu.pc, d.busRead (d.cpu.pc + 1), d.busRead (d.cpu.pc + 2)] =
      .ok (i, rest) →
    step s =
      match exec i d with
      | .next t => .next { t with cycle := t.cycle + 1 }
      | .fault r => .fault r
      | .refused r => .refused r

/-- A step services the pending source with the lowest index when IME is set (R512, R513): IME and its IF
bit are cleared, PC is pushed, PC becomes the vector and five cycles are charged (R514). -/
def Obligations.AStepServicesTheLowestPendingInterrupt : Prop :=
  ∀ (s : State) (i : IntSource),
    let d := wakeUp (deviceSteps s)
    s.fault = none → d.cpu.wake = some s.cycle → d.cpu.ime = true →
    (d.cpu.ie &&& d.cpu.iflag).getLsbD i.index = true →
    (∀ j < i.index, (d.cpu.ie &&& d.cpu.iflag).getLsbD j = false) →
    let cleared := { d with cpu := { d.cpu with
      ime := false, iflag := d.cpu.iflag &&& ~~~(1#5 <<< i.index), sp := d.cpu.sp - 2 } }
    let pushed := (cleared.busWrite (d.cpu.sp - 2) (d.cpu.pc.extractLsb' 0 8)).busWrite
      (d.cpu.sp - 1) (d.cpu.pc.extractLsb' 8 8)
    step s = .next { pushed with
      cpu := { pushed.cpu with pc := BitVec.ofNat 16 (0x40 + 8 * i.index)
                               wake := some (s.cycle + 5) }
      cycle := s.cycle + 1 }

/-- A machine without a fault always takes a step, which raises T by 1 (R500); a faulted one does not
step, and answers its record (R518; the answer is this model's choice, assumption log 3). -/
def Obligations.AMachineWithoutAFaultAlwaysSteps : Prop :=
  (∀ s : State, s.fault = none → ∃ t, step s = .next t ∧ t.cycle = s.cycle + 1) ∧
  (∀ (s : State) (r : FaultRecord), s.fault = some r → step s = .fault (.fatal r))

/-- Only executing STOP or one of the unused bytes records a fault in a step, and the step then changes
nothing but the devices' part of the tick and T: no register, no memory, no cycle charged (R506, R518,
R519). -/
def Obligations.OnlyStopAndIllegalBytesFaultAStep : Prop :=
  ∀ (s t : State) (r : FaultRecord), step s = .next t → t.fault = some r →
    let d := wakeUp (deviceSteps s)
    d.cpu.wake = some s.cycle ∧ d.serviceable = none ∧
    t = { d with fault := some r, cycle := s.cycle + 1 } ∧
    ((∃ n, fetchInstr d = .stop n ∧ r = .stopUnsupported s.cycle d.cpu.pc 0x10) ∨
      (∃ row ∈ illegalRows, fetchInstr d = row.2 ∧ r = .illegalOpcode s.cycle d.cpu.pc row.1))

/-- No step and no host event changes an image (R64), and none sets BOOT_EN again (R63). -/
def Obligations.ImagesNeverChangeAndTheBootRomStaysDisabled : Prop :=
  (∀ s t : State, step s = .next t →
    t.bootRom = s.bootRom ∧ t.cartridge = s.cartridge ∧ (s.bootEn = false → t.bootEn = false)) ∧
  (∀ (s : State) (e : HostEvent),
    (hostEvent e s).bootRom = s.bootRom ∧ (hostEvent e s).cartridge = s.cartridge ∧
    (s.bootEn = false → (hostEvent e s).bootEn = false))

/-! ### The timer -/

/-- TimerStep (R530) with TimerState (R531) and IncIfFalling (R532); the writes of DIV (R534), TIMA
(R535), TMA (R536) and TAC (R537). -/
def Obligations.TheTimerCountsFallingEdges : Prop :=
  ∀ (s : State) (v : Byte),
    let before := timerStateOf s.timer.divc s.timer.tac
    timerStep s = afterEdge s before (s.timer.divc + 4) s.timer.tac ∧
    s.busWrite 0xFF04 v = afterEdge s before 0 s.timer.tac ∧
    s.busWrite 0xFF05 v = { s with timer := { s.timer with tima := v } } ∧
    s.busWrite 0xFF06 v = { s with timer := { s.timer with tma := v } } ∧
    s.busWrite 0xFF07 v = afterEdge s before s.timer.divc v

/-- TIMA rises once every 2^(tap+1) / 4 ticks of an enabled timer: 256, 4, 16 or 64 (R538, which the
spec derives from R530 to R532). -/
def Obligations.TimaRisesOncePerPeriod : Prop :=
  ∀ (s : State) (n : Nat),
    let period := 2 ^ (tapOf s.timer.tac + 1) / 4
    s.timer.divc = 0 → s.timer.tima = 0 → s.timer.tac.getLsbD 2 = true → n / period < 256 →
    (timerStep^[n] s).timer.tima.toNat = n / period ∧
    (timerStep^[n] s).timer.divc = BitVec.ofNat 16 (4 * n)

/-! ### The LCD controller -/

/-- Bus writes of the LCD controller: power-on (R551), power-off (R552), STAT (R553), the plain registers,
video RAM and OAM, and LY, which ignores a write (R554), LYC (R555) and DMA (R559). The power-on delay is
the spec's reading D25, the details of power-off its decision D26. -/
def Obligations.WritesOfTheLcdRegisters : Prop :=
  ∀ (s : State) (v : Byte),
    (v.getLsbD 7 = true → s.lcd.phase = .off →
      s.busWrite 0xFF40 v = { s with lcd := { s.lcd with
        lcdc := v, phase := .starting, next := some (s.cycle + 19) } }) ∧
    (v.getLsbD 7 = false → s.lcd.phase ≠ .off →
      s.busWrite 0xFF40 v = State.compareLine { s with lcd := { s.lcd with
        lcdc := v, phase := .off, next := none, stat := s.lcd.stat &&& 0xFC, frameBuf := none,
        ly := 0 } }) ∧
    ((v.getLsbD 7 = true ↔ s.lcd.phase ≠ .off) →
      s.busWrite 0xFF40 v = { s with lcd := { s.lcd with lcdc := v } }) ∧
    s.busWrite 0xFF41 v = { s with lcd := { s.lcd with
      stat := v.extractLsb' 3 5 ++ s.lcd.stat.extractLsb' 0 3 } } ∧
    s.busWrite 0xFF42 v = { s with lcd := { s.lcd with scy := v } } ∧
    s.busWrite 0xFF43 v = { s with lcd := { s.lcd with scx := v } } ∧
    s.busWrite 0xFF44 v = s ∧
    s.busWrite 0xFF45 v = State.compareLine { s with lcd := { s.lcd with lyc := v } } ∧
    s.busWrite 0xFF46 v = { s with lcd := { s.lcd with
      dma := v, dmaSrc := v, dmaIdx := 0, dmaActive := true } } ∧
    s.busWrite 0xFF47 v = { s with lcd := { s.lcd with bgp := v } } ∧
    s.busWrite 0xFF48 v = { s with lcd := { s.lcd with obp0 := v } } ∧
    s.busWrite 0xFF49 v = { s with lcd := { s.lcd with obp1 := v } } ∧
    s.busWrite 0xFF4A v = { s with lcd := { s.lcd with wy := v } } ∧
    s.busWrite 0xFF4B v = { s with lcd := { s.lcd with wx := v } } ∧
    (∀ k : Nat, k < 8192 → s.busWrite (BitVec.ofNat 16 (0x8000 + k)) v =
      { s with lcd := { s.lcd with vram := s.lcd.vram.write k v } }) ∧
    (∀ k : Nat, k < 160 → s.busWrite (BitVec.ofNat 16 (0xFE00 + k)) v =
      { s with lcd := { s.lcd with oam := s.lcd.oam.write k v } })

/-- Compare sets LYC_EQ_LY from LY = LYC and raises LCD_STAT on a match with INT_LYC set (R556); SetLY sets
LY and compares (R564); EnterMode(m) sets MODE, raises LCD_STAT if mode m is 0, 1 or 2 and its enable bit
is set, and VBLANK if m = 1 (R557). No other bit of STAT, and nothing else, changes. -/
def Obligations.LineComparisonAndModeEntry : Prop :=
  (∀ (s : State) (v : Byte),
    ∃ stat, stat.getLsbD 2 = (v == s.lcd.lyc) ∧ stat &&& 0xFB = s.lcd.stat &&& 0xFB ∧
      s.setLine v = { s with
        lcd := { s.lcd with ly := v, stat := stat }
        cpu := { s.cpu with iflag :=
          if v = s.lcd.lyc ∧ s.lcd.stat.getLsbD 6 = true then s.cpu.iflag ||| 0b00010
          else s.cpu.iflag } } ∧
      State.compareLine { s with lcd := { s.lcd with ly := v } } = s.setLine v) ∧
  (∀ (s : State) (m : BitVec 2),
    let statRaised := (m = 0 ∧ s.lcd.stat.getLsbD 3 = true) ∨ (m = 1 ∧ s.lcd.stat.getLsbD 4 = true) ∨
      (m = 2 ∧ s.lcd.stat.getLsbD 5 = true)
    ∃ iflag, s.enterMode m = { s with
        lcd := { s.lcd with stat := s.lcd.stat.extractLsb' 2 6 ++ m }
        cpu := { s.cpu with iflag := iflag } } ∧
      (iflag.getLsbD 1 = true ↔ s.cpu.iflag.getLsbD 1 = true ∨ statRaised) ∧
      (iflag.getLsbD 0 = true ↔ s.cpu.iflag.getLsbD 0 = true ∨ m = 1) ∧
      iflag.extractLsb' 2 3 = s.cpu.iflag.extractLsb' 2 3)

/-- The mode state machine: what the mode step does in every phase when L = T (R562, R563, R565 to R569,
R580), and that it does nothing when L is not T. A new mode is STAT's mode, so the premise says that STAT
shows the phase, as it does in every run. SetLY before EnterMode, and when a frame is begun and published,
are the spec's decisions D27, D12 and D33. -/
def Obligations.TheModeStateMachine : Prop :=
  ∀ s : State,
    let v := s.lcd
    let matchAt (ly : Byte) : Prop := ly = v.lyc ∧ v.stat.getLsbD 6 = true
    let enabled (k : Nat) : Prop := v.stat.getLsbD k = true
    (v.next ≠ some s.cycle → modeStep s = s) ∧
    (v.next = some s.cycle → v.stat.extractLsb' 0 2 = v.phase.mode →
      (v.phase = .off → modeStep s = s) ∧
      (v.phase = .starting → LineEvent s (modeStep s) .mode2 0 0 20 True False
        (matchAt 0 ∨ enabled 5) (some []) v.curImage) ∧
      (v.phase = .mode2 → LineEvent s (modeStep s) .mode3 v.ly (v.wlineAfter v.ly.toNat) 43 False False
        False (v.frameBuf.map (· ++ [v.renderLine v.ly.toNat])) v.curImage) ∧
      (v.phase = .mode3 → LineEvent s (modeStep s) .mode0 v.ly v.wline 51 False False
        (enabled 3) v.frameBuf v.curImage) ∧
      (v.phase = .mode0 → v.ly.toNat < 143 → LineEvent s (modeStep s) .mode2 (v.ly + 1) v.wline 20
        True False (matchAt (v.ly + 1) ∨ enabled 5) v.frameBuf v.curImage) ∧
      (∀ lines, v.phase = .mode0 → 143 ≤ v.ly.toNat → v.frameBuf = some lines →
        LineEvent s (modeStep s) .mode1 144 v.wline 114 True True (matchAt 144 ∨ enabled 4) none
          (lines.map Line.colors)) ∧
      (v.phase = .mode1 → v.ly.toNat < 153 → LineEvent s (modeStep s) .mode1 (v.ly + 1) v.wline 114
        True False (matchAt (v.ly + 1)) v.frameBuf v.curImage) ∧
      (v.phase = .mode1 → 153 ≤ v.ly.toNat → LineEvent s (modeStep s) .mode2 0 0 20 True False
        (matchAt 0 ∨ enabled 5) (some []) v.curImage))

/-- DmaStep copies one byte, read through the bus and stored in OAM directly, and stops after index 159;
so a copy runs for exactly 160 DMA steps, after which OAM holds the 160 bytes of the source page as the
bus read them before the copy (R560). -/
def Obligations.ADmaCopiesOneByteAStepFor160Steps : Prop :=
  (∀ s : State,
    (s.lcd.dmaActive = false → dmaStep s = s) ∧
    (s.lcd.dmaActive = true → s.lcd.dmaIdx < 160 →
      dmaStep s = { s with lcd := { s.lcd with
        oam := s.lcd.oam.write s.lcd.dmaIdx
          (s.busRead (s.lcd.dmaSrc ++ BitVec.ofNat 8 s.lcd.dmaIdx))
        dmaIdx := s.lcd.dmaIdx + 1
        dmaActive := decide (s.lcd.dmaIdx ≠ 159) } })) ∧
  (∀ (s : State) (k : Nat), s.lcd.dmaActive = true → s.lcd.dmaIdx = 0 → k < 160 →
    (dmaStep^[k] s).lcd.dmaActive = true ∧
    (dmaStep^[160] s).lcd.dmaActive = false ∧
    (dmaStep^[160] s).lcd.oam.read k = s.busRead (s.lcd.dmaSrc ++ BitVec.ofNat 8 k))

/-- The operations on lines act pixel by pixel (R571); the palette 0xE4 maps every line to itself. -/
def Obligations.LineOperationsActOnPixels : Prop :=
  (∀ w x : Nat, (emptyLine w).length = w ∧ pixelAt (emptyLine w) x = Pixel.clear) ∧
  (∀ (ln : Line) (palette : Byte), (ln.mapColors palette).length = ln.length ∧
    ∀ x < ln.length, (pixelAt (ln.mapColors palette) x).opa = (pixelAt ln x).opa ∧
      (pixelAt (ln.mapColors palette) x).color =
        palette.extractLsb' (2 * (pixelAt ln x).color.toNat) 2) ∧
  (∀ ln : Line, ln.mapColors 0b11100100 = ln) ∧
  (∀ (lower upper : Line) (m : List Bool), lower.length = upper.length → m.length = lower.length →
    (Line.over lower upper).length = lower.length ∧
    (Line.overWhere lower upper m).length = lower.length ∧
    ∀ x < lower.length,
      (pixelAt (Line.over lower upper) x).color =
        (if (pixelAt upper x).opa then pixelAt upper x else pixelAt lower x).color ∧
      (pixelAt (Line.over lower upper) x).opa = ((pixelAt lower x).opa || (pixelAt upper x).opa) ∧
      (pixelAt (Line.overWhere lower upper m) x).color =
        (if m.getD x false then pixelAt upper x else pixelAt lower x).color ∧
      (pixelAt (Line.overWhere lower upper m) x).opa =
        ((pixelAt lower x).opa || ((pixelAt upper x).opa && m.getD x false))) ∧
  (∀ (left right : Line) (k : Nat), left.length = right.length →
    (Line.join left right k).length = left.length ∧
    ∀ x, pixelAt (Line.join left right k) x = if x < k then pixelAt left x else pixelAt right x) ∧
  (∀ (ln : Line) (start w : Nat), (ln.wrapped start w).length = w ∧
    ∀ x < w, pixelAt (ln.wrapped start w) x = pixelAt ln ((start + x) % ln.length)) ∧
  (∀ (ln : Line) (d : Int) (w : Nat), (ln.shifted d w).length = w ∧
    ∀ x < w, pixelAt (ln.shifted d w) x =
      if 0 ≤ (x : Int) - d ∧ (x : Int) - d < ln.length then pixelAt ln ((x : Int) - d).toNat
      else Pixel.clear)

/-- The background and window of a line, pixel by pixel: the tile map scrolled by SCX and SCY (R572,
R574), with the window's row WLINE joined from wx' on (R573). BG_ENABLE and the window's conditions are
the spec's decisions D34 and D28. -/
def Obligations.BackgroundAndWindowPixels : Prop :=
  ∀ (v : Lcd) (y x : Nat), x < 160 →
    let wx := v.wx.toNat - 7
    let drawn := v.lcdc.getLsbD 5 = true ∧ v.wy.toNat ≤ y ∧ wx < 160
    (v.backgroundAndWindow y).length = 160 ∧
    (drawn → wx ≤ x → pixelAt (v.backgroundAndWindow y) x =
      (mapPixel v (if v.lcdc.getLsbD 6 then 0x9C00 else 0x9800) v.wline.toNat (x - wx)).mapColor
        v.bgp) ∧
    (¬(drawn ∧ wx ≤ x) → pixelAt (v.backgroundAndWindow y) x =
      if v.lcdc.getLsbD 0 then
        (mapPixel v (if v.lcdc.getLsbD 3 then 0x9C00 else 0x9800) ((y + v.scy.toNat) % 256)
          ((x + v.scx.toNat) % 256)).mapColor v.bgp
      else Pixel.clear) ∧
    (∀ idx : Byte, v.lcdc.getLsbD 4 = true → v.tileAddr idx = 0x8000 + 16 * idx.toNat) ∧
    (∀ idx : Byte, v.lcdc.getLsbD 4 = false →
      (v.tileAddr idx : Int) = 0x9000 + 16 * (idx.toNat - 256 * (idx.getLsbD 7).toNat)) ∧
    (v.wlineAfter y = v.wline + 1 ↔ drawn) ∧ (¬drawn → v.wlineAfter y = v.wline)

/-- Sprite selection and priority: a sprite is selected when it is on the line and fewer than ten sprites
of lower index are (R575); the selected sprites are ordered by (X, index), smallest first (R576). -/
def Obligations.SpriteSelectionAndPriority : Prop :=
  ∀ (v : Lcd) (y : Nat),
    let height : Int := if v.lcdc.getLsbD 2 then 16 else 8
    let onLine (k : Nat) : Prop :=
      0 ≤ (y : Int) - ((v.oam.read (4 * k)).toNat - 16) ∧
        (y : Int) - ((v.oam.read (4 * k)).toNat - 16) < height
    let xOf (k : Nat) : Nat := (v.oam.read (4 * k + 1)).toNat
    (∀ k, k ∈ v.selectedSprites y ↔
      k < 40 ∧ onLine k ∧ ((List.range k).filter (v.spriteOnLine y)).length < 10) ∧
    (∀ k, v.spriteOnLine y k = true ↔ onLine k) ∧
    (v.selectedSprites y).length ≤ 10 ∧ (v.selectedSprites y).Pairwise (· < ·) ∧
    (v.spritesByPriority y).Perm (v.selectedSprites y) ∧
    (v.spritesByPriority y).Pairwise fun j k => xOf j < xOf k ∨ (xOf j = xOf k ∧ j < k)

/-- A sprite's line, pixel by pixel (R577): the flips, the tile pair of a 16-pixel sprite, the palette, and
transparent pixels outside its eight columns. -/
def Obligations.SpritePixels : Prop :=
  ∀ (v : Lcd) (k y x : Nat), v.spriteOnLine y k = true → x < 160 →
    let attr := v.oam.read (4 * k + 3)
    let tile := v.oam.read (4 * k + 2)
    let left : Int := (v.oam.read (4 * k + 1)).toNat - 8
    let tall := v.lcdc.getLsbD 2
    let height := if tall then 16 else 8
    let r := if attr.getLsbD 6 then height - 1 - spriteLineRow v k y else spriteLineRow v k y
    let t := if tall then (if r < 8 then tile &&& 0xFE else tile ||| 0x01) else tile
    let lo := v.vram.read (16 * t.toNat + 2 * (r % 8))
    let hi := v.vram.read (16 * t.toNat + 2 * (r % 8) + 1)
    (v.spriteLine k y).length = 160 ∧
    (∀ i : Nat, i < 8 → (x : Int) = left + i →
      let j := if attr.getLsbD 5 then i else 7 - i
      pixelAt (v.spriteLine k y) x =
        Pixel.mapColor (if attr.getLsbD 4 then v.obp1 else v.obp0)
          { lsb := lo.getLsbD j, msb := hi.getLsbD j, opa := lo.getLsbD j || hi.getLsbD j }) ∧
    ((x : Int) < left ∨ left + 8 ≤ x →
      pixelAt (v.spriteLine k y) x =
        Pixel.mapColor (if attr.getLsbD 4 then v.obp1 else v.obp0) Pixel.clear)

/-- Within a group the highest-priority opaque sprite is on top (R578); the below-group shows where the
background is transparent, and the above-group over everything (R579). The line's colours are those of
this composition of the background with the window and the two groups; without OBJ_ENABLE no sprite is
drawn (R570; the enable bits are the spec's decision D34). -/
def Obligations.SpritesAndCompositionOfALine : Prop :=
  ∀ (v : Lcd) (y x : Nat), x < 160 →
    let order := v.spritesByPriority y
    let top (behind : Bool) : Option Nat := if v.lcdc.getLsbD 1 then
        order.find? fun k => (v.oam.read (4 * k + 3)).getLsbD 7 == behind &&
          (pixelAt (v.spriteLine k y) x).opa
      else none
    let bg := pixelAt (v.backgroundAndWindow y) x
    (v.renderLine y).length = 160 ∧
    (pixelAt (v.renderLine y) x).color =
      match top false with
      | some k => (pixelAt (v.spriteLine k y) x).color
      | none =>
        match top true with
        | some k => if bg.opa then bg.color else (pixelAt (v.spriteLine k y) x).color
        | none => bg.color

/-! ### The joypad -/

/-- KeyPressed and KeyReleased set and clear the key's bit of its line and recompute P1I, whose change in
either direction requests JOYPAD (R590, R591, R592, R593); a bus write of P1 takes the complement of the
select bits (R595; recomputing after a write is the spec's decision D29). -/
def Obligations.KeyEventsAndWritesOfP1 : Prop :=
  (∀ (s : State) (v : Byte),
    s.busWrite 0xFF00 v =
      afterSelect s s.joypad.line0 s.joypad.line1 ((~~~v).extractLsb' 4 2)) ∧
  (∀ (s : State) (q : Nat) (k : Key),
    [Key.right, .left, .up, .down, .a, .b, .select, .start][q]? = some k →
    let bit : BitVec 4 := 1#4 <<< (q % 4)
    let l0 := s.joypad.line0
    let l1 := s.joypad.line1
    let select := s.joypad.p1i.extractLsb' 4 2
    keyPressed k s =
      afterSelect s (if q < 4 then l0 ||| bit else l0) (if q < 4 then l1 else l1 ||| bit) select ∧
    keyReleased k s =
      afterSelect s (if q < 4 then l0 &&& ~~~bit else l0) (if q < 4 then l1 else l1 &&& ~~~bit)
        select)

/-! ### The host -/

/-- RunUntil(c): an earlier cycle records CYCLE_ORDER with `c`, whatever the fault state holds, and changes
nothing else; the present cycle does nothing; a later one takes a step at a time and ends at cycle c, or
with a fault recorded, so a faulted machine stays as it is, and running to a cycle between is no detour
(R601). The bound is the spec's decision D30. -/
def Obligations.RunUntilProcessesTheCyclesBeforeItsBound : Prop :=
  (∀ (s : State) (c : Nat), c < s.cycle →
    runUntil c s = { s with fault := some (.cycleOrder s.cycle c) }) ∧
  (∀ s : State, runUntil s.cycle s = s) ∧
  (∀ (s t : State) (c : Nat), s.cycle < c → step s = .next t → runUntil c s = runUntil c t) ∧
  (∀ (s : State) (c : Nat), s.cycle ≤ c →
    ((runUntil c s).fault = none → (runUntil c s).cycle = c) ∧ (runUntil c s).cycle ≤ c) ∧
  (∀ (s : State) (c c' : Nat), s.cycle ≤ c → c ≤ c' → s.fault = none → (runUntil c s).fault = none →
    runUntil c' (runUntil c s) = runUntil c' s) ∧
  (∀ (s : State) (c : Nat) (r : FaultRecord), s.cycle ≤ c → s.fault = some r → runUntil c s = s)

/-! ### Invariants -/

/-- The invariant holds after reset and after either launch. -/
def Obligations.ResetMeetsTheInvariant : Prop :=
  State.reset.Inv ∧
  ∀ (o : Launch) (bootRom cartridge : Memory), bootRom.ok 256 = true → cartridge.ok 32768 = true →
    (launch o bootRom cartridge).Inv

/-- A step keeps every memory in its canonical form and within its region, from every state whose DMA
engine is legal, whether or not a run reaches it. -/
def Obligations.StepsKeepMemoriesCanonical : Prop :=
  ∀ s t : State, s.Canonical → s.Legal → step s = .next t → t.Canonical

/-- A step keeps the CPU, the timer, the DMA engine and the joypad legal: F's low bits read 0 (R32), W is
not in the past (R501), DIVC is a multiple of 4 (R530), DMA_IDX is in range (R58) and P1I reports the
selected keys (R592). -/
def Obligations.StepsKeepRegistersLegal : Prop :=
  ∀ s t : State, s.Legal → step s = .next t → t.Legal

/-- A step keeps the LCD controller consistent: its phase, L, LCDC.LCD_ENABLE, STAT.MODE, LY and the frame
being built agree (R56, R59, R501, R561). -/
def Obligations.StepsKeepTheLcdConsistent : Prop :=
  ∀ s t : State, s.LcdConsistent → step s = .next t → t.LcdConsistent

/-- Every state that a launch, steps and host events lead to meets the whole invariant. -/
def Obligations.EveryReachableStateMeetsTheInvariant : Prop :=
  ∀ s : State, Reachable s → s.Inv
end

