-- ==== Sys2Proof/Laws/Bits.lean ====
section
/-! SUPPORT. The laws of the bit-field helpers. -/

namespace Sys2Proof.Machine

theorem word16_toNat (hi lo : Byte) : (word16 hi lo).toNat = hi.toNat * 256 + lo.toNat := by
  unfold word16
  rw [BitVec.toNat_append, Nat.shiftLeft_eq, Nat.mul_comm, ← Nat.two_pow_add_eq_or_of_lt lo.isLt]

theorem hiByte_toNat (v : Word) : (hiByte v).toNat = v.toNat / 256 := by
  have := v.isLt
  simp only [hiByte, BitVec.extractLsb'_toNat, Nat.shiftRight_eq_div_pow]
  omega

theorem loByte_toNat (v : Word) : (loByte v).toNat = v.toNat % 256 := by
  simp [loByte, BitVec.extractLsb'_toNat]

@[simp] theorem word16_hiByte_loByte (v : Word) : word16 (hiByte v) (loByte v) = v := by
  apply BitVec.eq_of_toNat_eq
  rw [word16_toNat, hiByte_toNat, loByte_toNat]
  omega

@[simp] theorem hiByte_word16 (hi lo : Byte) : hiByte (word16 hi lo) = hi := by
  apply BitVec.eq_of_toNat_eq
  have := lo.isLt
  rw [hiByte_toNat, word16_toNat]
  omega

@[simp] theorem loByte_word16 (hi lo : Byte) : loByte (word16 hi lo) = lo := by
  apply BitVec.eq_of_toNat_eq
  have := lo.isLt
  rw [loByte_toNat, word16_toNat]
  omega

/-- The two bytes of an immediate give it back. -/
@[simp] theorem word16_imm (nn : Word) : word16 (immHi nn) (immLo nn) = nn :=
  word16_hiByte_loByte nn

@[simp] theorem immWord_imm (nn : Word) : immWord (immLo nn) (immHi nn) = nn :=
  word16_hiByte_loByte nn

@[simp] theorem immHi_immWord (lo hi : Byte) : immHi (immWord lo hi) = hi := hiByte_word16 hi lo

@[simp] theorem immLo_immWord (lo hi : Byte) : immLo (immWord lo hi) = lo := loByte_word16 hi lo

end Sys2Proof.Machine
end

