-- ==== Sys2Proof/Laws/Memory.lean ====
section
/-! SUPPORT. The laws of one memory: reading after writing, and the canonical form. -/

namespace Sys2Proof.Machine

@[simp] theorem Memory.read_nil (a : Nat) : Memory.read [] a = 0 := rfl

theorem Memory.read_cons (k : Nat) (v : Byte) (m : Memory) (a : Nat) :
    Memory.read ((k, v) :: m) a = if k = a then v else Memory.read m a := rfl

theorem Memory.read_erase (m : Memory) (a b : Nat) :
    (Memory.erase m a).read b = if b = a then 0 else m.read b := by
  induction m with
  | nil => simp [Memory.erase]
  | cons cell m ih =>
    obtain ⟨k, v⟩ := cell
    rw [Memory.erase]
    split_ifs <;> simp_all [Memory.read_cons]
    intro h; omega

theorem Memory.mem_erase_ne {m : Memory} {a : Nat} {cell : Host.Cell} (h : cell ∈ m.erase a) :
    cell ∈ m ∧ cell.1 ≠ a := by
  induction m with
  | nil => simp [Memory.erase] at h
  | cons c m ih =>
    obtain ⟨k, v⟩ := c
    rw [Memory.erase] at h
    split_ifs at h with hk
    · exact ⟨List.mem_cons_of_mem _ (ih h).1, (ih h).2⟩
    · rcases List.mem_cons.mp h with rfl | h
      · exact ⟨List.mem_cons_self .., hk⟩
      · exact ⟨List.mem_cons_of_mem _ (ih h).1, (ih h).2⟩

theorem Memory.read_insert (m : Memory) (a : Nat) (v : Byte) (b : Nat)
    (h : ∀ cell ∈ m, cell.1 ≠ a) :
    (Memory.insert m a v).read b = if b = a then v else m.read b := by
  induction m with
  | nil =>
    rw [Memory.insert, Memory.read_cons]
    by_cases h : a = b
    · rw [if_pos h, if_pos h.symm]
    · rw [if_neg h, if_neg (Ne.symm h)]
  | cons cell m ih =>
    obtain ⟨k, w⟩ := cell
    have hk : k ≠ a := h (k, w) (List.mem_cons_self ..)
    have ih := ih fun c hc => h c (List.mem_cons_of_mem _ hc)
    rw [Memory.insert]
    split
    · rw [Memory.read_cons]
      by_cases hab : a = b
      · rw [if_pos hab, if_pos hab.symm]
      · rw [if_neg hab, if_neg (Ne.symm hab)]
    · rw [Memory.read_cons, ih, Memory.read_cons]
      split_ifs <;> first | rfl | omega

/-- Reading after a write: the byte written at its own index, the old byte at every other. -/
theorem Memory.read_write (m : Memory) (a : Nat) (v : Byte) (b : Nat) :
    (m.write a v).read b = if b = a then v else m.read b := by
  unfold Memory.write
  split
  · next h => subst h; exact m.read_erase a b
  · rw [Memory.read_insert _ _ _ _ fun c hc => (Memory.mem_erase_ne hc).2, Memory.read_erase]
    split <;> simp_all

@[simp] theorem Memory.read_write_self (m : Memory) (a : Nat) (v : Byte) :
    (m.write a v).read a = v := by simp [Memory.read_write]

theorem Memory.read_write_of_ne (m : Memory) {a b : Nat} (v : Byte) (h : b ≠ a) :
    (m.write a v).read b = m.read b := by simp [Memory.read_write, h]

/-! ### The canonical form -/

theorem Memory.above_iff (lo : Nat) (m : Memory) :
    Memory.above lo m = true ↔ ∀ cell ∈ m, lo < cell.1 := by simp [Memory.above]

theorem Memory.wf_cons (k : Nat) (v : Byte) (m : Memory) :
    Memory.wf ((k, v) :: m) = true ↔ v ≠ 0 ∧ (∀ cell ∈ m, k < cell.1) ∧ Memory.wf m = true := by
  simp [Memory.wf, Memory.above, and_assoc]

theorem Memory.mem_insert {m : Memory} {a : Nat} {v : Byte} {cell : Host.Cell}
    (h : cell ∈ m.insert a v) : cell = (a, v) ∨ cell ∈ m := by
  induction m with
  | nil => simpa [Memory.insert] using h
  | cons c m ih =>
    obtain ⟨k, w⟩ := c
    rw [Memory.insert] at h
    split_ifs at h
    · simpa using h
    · rcases List.mem_cons.mp h with rfl | h
      · simp
      · rcases ih h with h | h <;> simp [h]

theorem Memory.wf_erase {m : Memory} (a : Nat) (h : m.wf = true) : (m.erase a).wf = true := by
  induction m with
  | nil => rfl
  | cons c m ih =>
    obtain ⟨k, v⟩ := c
    obtain ⟨hv, hk, hm⟩ := (Memory.wf_cons ..).mp h
    rw [Memory.erase]
    split
    · exact ih hm
    · exact (Memory.wf_cons ..).mpr
        ⟨hv, fun c hc => hk c (Memory.mem_erase_ne hc).1, ih hm⟩

theorem Memory.wf_insert {m : Memory} {a : Nat} {v : Byte} (hv : v ≠ 0)
    (hne : ∀ cell ∈ m, cell.1 ≠ a) (h : m.wf = true) : (m.insert a v).wf = true := by
  induction m with
  | nil => exact (Memory.wf_cons ..).mpr ⟨hv, by simp, rfl⟩
  | cons c m ih =>
    obtain ⟨k, w⟩ := c
    obtain ⟨hw, hk, hm⟩ := (Memory.wf_cons ..).mp h
    have hka : k ≠ a := hne (k, w) (List.mem_cons_self ..)
    rw [Memory.insert]
    split
    · next hak =>
      refine (Memory.wf_cons ..).mpr ⟨hv, fun c hc => ?_, h⟩
      rcases List.mem_cons.mp hc with rfl | hc
      · exact hak
      · exact lt_trans hak (hk c hc)
    · next hak =>
      refine (Memory.wf_cons ..).mpr
        ⟨hw, fun c hc => ?_, ih (fun c hc => hne c (List.mem_cons_of_mem _ hc)) hm⟩
      rcases Memory.mem_insert hc with rfl | hc
      · show k < a; omega
      · exact hk c hc

/-- A write keeps the canonical form. -/
theorem Memory.wf_write {m : Memory} (a : Nat) (v : Byte) (h : m.wf = true) :
    (m.write a v).wf = true := by
  unfold Memory.write
  split
  · exact Memory.wf_erase a h
  · next hv =>
    exact Memory.wf_insert hv (fun c hc => (Memory.mem_erase_ne hc).2) (Memory.wf_erase a h)

theorem Memory.fits_iff (m : Memory) (n : Nat) :
    m.fits n = true ↔ ∀ cell ∈ m, cell.1 < n := by simp [Memory.fits]

/-- A write below the size keeps the memory within its size. -/
theorem Memory.fits_write {m : Memory} {n a : Nat} (v : Byte) (ha : a < n) (h : m.fits n = true) :
    (m.write a v).fits n = true := by
  rw [Memory.fits_iff] at *
  intro c hc
  unfold Memory.write at hc
  split at hc
  · exact h c (Memory.mem_erase_ne hc).1
  · rcases Memory.mem_insert hc with rfl | hc
    · exact ha
    · exact h c (Memory.mem_erase_ne hc).1

/-- A write below the size keeps a memory good. -/
theorem Memory.ok_write {m : Memory} {n a : Nat} (v : Byte) (ha : a < n) (h : m.ok n = true) :
    (m.write a v).ok n = true := by
  simp only [Memory.ok, Bool.and_eq_true] at *
  exact ⟨Memory.wf_write a v h.1, Memory.fits_write v ha h.2⟩

theorem Memory.read_eq_zero_of_above {m : Memory} {lo a : Nat}
    (h : ∀ cell ∈ m, lo < cell.1) (ha : a ≤ lo) : m.read a = 0 := by
  induction m with
  | nil => rfl
  | cons c m ih =>
    obtain ⟨k, v⟩ := c
    have hk : lo < k := h (k, v) (List.mem_cons_self ..)
    rw [Memory.read_cons, if_neg (by omega)]
    exact ih fun c hc => h c (List.mem_cons_of_mem _ hc)

/-- Canonical memories that read alike are equal: equal memories are equal data. -/
theorem Memory.ext_of_read {m n : Memory} (hm : m.wf = true) (hn : n.wf = true)
    (h : ∀ a, m.read a = n.read a) : m = n := by
  induction m generalizing n with
  | nil =>
    cases n with
    | nil => rfl
    | cons c n =>
      obtain ⟨k, v⟩ := c
      have hv := ((Memory.wf_cons ..).mp hn).1
      have := h k
      rw [Memory.read_cons, if_pos rfl] at this
      exact absurd this.symm hv
  | cons c m ih =>
    obtain ⟨k, v⟩ := c
    obtain ⟨hv, hk, hm'⟩ := (Memory.wf_cons ..).mp hm
    cases n with
    | nil =>
      have := h k
      rw [Memory.read_cons, if_pos rfl] at this
      exact absurd this hv
    | cons d n =>
      obtain ⟨j, w⟩ := d
      obtain ⟨hw, hj, hn'⟩ := (Memory.wf_cons ..).mp hn
      have hkj : k = j := by
        rcases lt_trichotomy k j with hlt | heq | hgt
        · have := h k
          rw [Memory.read_cons, if_pos rfl, Memory.read_cons, if_neg (by omega),
            Memory.read_eq_zero_of_above hj (by omega)] at this
          exact absurd this hv
        · exact heq
        · have := h j
          rw [Memory.read_cons, if_neg (by omega), Memory.read_cons, if_pos rfl,
            Memory.read_eq_zero_of_above hk (by omega)] at this
          exact absurd this.symm hw
      subst hkj
      have hvw : v = w := by
        have := h k
        simpa [Memory.read_cons] using this
      subst hvw
      rw [ih hm' hn' fun a => ?_]
      by_cases hak : k = a
      · subst hak
        rw [Memory.read_eq_zero_of_above hk le_rfl, Memory.read_eq_zero_of_above hj le_rfl]
      · have := h a
        simpa [Memory.read_cons, hak] using this

end Sys2Proof.Machine
end

