-- ==== Sys2Proof/Laws/State.lean ====
section
/-! SUPPORT. One lemma for each field of each named update of the state, so that no later proof unfolds
a record update. -/

namespace Sys2Proof.Machine

/-! ### Updates of the CPU -/

@[simp] theorem Cpu.setReg_f (u : Cpu) (r : Reg8) (v : Byte) :
    (u.setReg r v).f = u.f := by cases r <;> rfl
@[simp] theorem Cpu.setReg_pc (u : Cpu) (r : Reg8) (v : Byte) :
    (u.setReg r v).pc = u.pc := by cases r <;> rfl
@[simp] theorem Cpu.setReg_sp (u : Cpu) (r : Reg8) (v : Byte) :
    (u.setReg r v).sp = u.sp := by cases r <;> rfl
@[simp] theorem Cpu.setReg_ime (u : Cpu) (r : Reg8) (v : Byte) :
    (u.setReg r v).ime = u.ime := by cases r <;> rfl
@[simp] theorem Cpu.setReg_ie (u : Cpu) (r : Reg8) (v : Byte) :
    (u.setReg r v).ie = u.ie := by cases r <;> rfl
@[simp] theorem Cpu.setReg_iflag (u : Cpu) (r : Reg8) (v : Byte) :
    (u.setReg r v).iflag = u.iflag := by cases r <;> rfl
@[simp] theorem Cpu.setReg_hram (u : Cpu) (r : Reg8) (v : Byte) :
    (u.setReg r v).hram = u.hram := by cases r <;> rfl
@[simp] theorem Cpu.setReg_wake (u : Cpu) (r : Reg8) (v : Byte) :
    (u.setReg r v).wake = u.wake := by cases r <;> rfl
@[simp] theorem Cpu.setF_a (u : Cpu) (v : Byte) : (u.setF v).a = u.a := rfl
@[simp] theorem Cpu.setF_b (u : Cpu) (v : Byte) : (u.setF v).b = u.b := rfl
@[simp] theorem Cpu.setF_c (u : Cpu) (v : Byte) : (u.setF v).c = u.c := rfl
@[simp] theorem Cpu.setF_d (u : Cpu) (v : Byte) : (u.setF v).d = u.d := rfl
@[simp] theorem Cpu.setF_e (u : Cpu) (v : Byte) : (u.setF v).e = u.e := rfl
@[simp] theorem Cpu.setF_h (u : Cpu) (v : Byte) : (u.setF v).h = u.h := rfl
@[simp] theorem Cpu.setF_l (u : Cpu) (v : Byte) : (u.setF v).l = u.l := rfl
@[simp] theorem Cpu.setF_pc (u : Cpu) (v : Byte) : (u.setF v).pc = u.pc := rfl
@[simp] theorem Cpu.setF_sp (u : Cpu) (v : Byte) : (u.setF v).sp = u.sp := rfl
@[simp] theorem Cpu.setF_ime (u : Cpu) (v : Byte) : (u.setF v).ime = u.ime := rfl
@[simp] theorem Cpu.setF_ie (u : Cpu) (v : Byte) : (u.setF v).ie = u.ie := rfl
@[simp] theorem Cpu.setF_iflag (u : Cpu) (v : Byte) : (u.setF v).iflag = u.iflag := rfl
@[simp] theorem Cpu.setF_hram (u : Cpu) (v : Byte) : (u.setF v).hram = u.hram := rfl
@[simp] theorem Cpu.setF_wake (u : Cpu) (v : Byte) : (u.setF v).wake = u.wake := rfl
@[simp] theorem Cpu.setF_f (u : Cpu) (v : Byte) : (u.setF v).f = v &&& 0xF0 := rfl
@[simp] theorem Cpu.setHL_a (u : Cpu) (v : Word) : (u.setHL v).a = u.a := rfl
@[simp] theorem Cpu.setHL_f (u : Cpu) (v : Word) : (u.setHL v).f = u.f := rfl
@[simp] theorem Cpu.setHL_b (u : Cpu) (v : Word) : (u.setHL v).b = u.b := rfl
@[simp] theorem Cpu.setHL_c (u : Cpu) (v : Word) : (u.setHL v).c = u.c := rfl
@[simp] theorem Cpu.setHL_d (u : Cpu) (v : Word) : (u.setHL v).d = u.d := rfl
@[simp] theorem Cpu.setHL_e (u : Cpu) (v : Word) : (u.setHL v).e = u.e := rfl
@[simp] theorem Cpu.setHL_pc (u : Cpu) (v : Word) : (u.setHL v).pc = u.pc := rfl
@[simp] theorem Cpu.setHL_sp (u : Cpu) (v : Word) : (u.setHL v).sp = u.sp := rfl
@[simp] theorem Cpu.setHL_ime (u : Cpu) (v : Word) : (u.setHL v).ime = u.ime := rfl
@[simp] theorem Cpu.setHL_ie (u : Cpu) (v : Word) : (u.setHL v).ie = u.ie := rfl
@[simp] theorem Cpu.setHL_iflag (u : Cpu) (v : Word) : (u.setHL v).iflag = u.iflag := rfl
@[simp] theorem Cpu.setHL_hram (u : Cpu) (v : Word) : (u.setHL v).hram = u.hram := rfl
@[simp] theorem Cpu.setHL_wake (u : Cpu) (v : Word) : (u.setHL v).wake = u.wake := rfl
@[simp] theorem Cpu.setHL_h (u : Cpu) (v : Word) : (u.setHL v).h = hiByte v := rfl
@[simp] theorem Cpu.setHL_l (u : Cpu) (v : Word) : (u.setHL v).l = loByte v := rfl
@[simp] theorem Cpu.setPair_a (u : Cpu) (p : Pair16) (v : Word) :
    (u.setPair p v).a = u.a := by cases p <;> rfl
@[simp] theorem Cpu.setPair_f (u : Cpu) (p : Pair16) (v : Word) :
    (u.setPair p v).f = u.f := by cases p <;> rfl
@[simp] theorem Cpu.setPair_pc (u : Cpu) (p : Pair16) (v : Word) :
    (u.setPair p v).pc = u.pc := by cases p <;> rfl
@[simp] theorem Cpu.setPair_ime (u : Cpu) (p : Pair16) (v : Word) :
    (u.setPair p v).ime = u.ime := by cases p <;> rfl
@[simp] theorem Cpu.setPair_ie (u : Cpu) (p : Pair16) (v : Word) :
    (u.setPair p v).ie = u.ie := by cases p <;> rfl
@[simp] theorem Cpu.setPair_iflag (u : Cpu) (p : Pair16) (v : Word) :
    (u.setPair p v).iflag = u.iflag := by cases p <;> rfl
@[simp] theorem Cpu.setPair_hram (u : Cpu) (p : Pair16) (v : Word) :
    (u.setPair p v).hram = u.hram := by cases p <;> rfl
@[simp] theorem Cpu.setPair_wake (u : Cpu) (p : Pair16) (v : Word) :
    (u.setPair p v).wake = u.wake := by cases p <;> rfl
@[simp] theorem Cpu.setStackPair_pc (u : Cpu) (p : StackPair) (v : Word) :
    (u.setStackPair p v).pc = u.pc := by cases p <;> rfl
@[simp] theorem Cpu.setStackPair_sp (u : Cpu) (p : StackPair) (v : Word) :
    (u.setStackPair p v).sp = u.sp := by cases p <;> rfl
@[simp] theorem Cpu.setStackPair_ime (u : Cpu) (p : StackPair) (v : Word) :
    (u.setStackPair p v).ime = u.ime := by cases p <;> rfl
@[simp] theorem Cpu.setStackPair_ie (u : Cpu) (p : StackPair) (v : Word) :
    (u.setStackPair p v).ie = u.ie := by cases p <;> rfl
@[simp] theorem Cpu.setStackPair_iflag (u : Cpu) (p : StackPair) (v : Word) :
    (u.setStackPair p v).iflag = u.iflag := by cases p <;> rfl
@[simp] theorem Cpu.setStackPair_hram (u : Cpu) (p : StackPair) (v : Word) :
    (u.setStackPair p v).hram = u.hram := by cases p <;> rfl
@[simp] theorem Cpu.setStackPair_wake (u : Cpu) (p : StackPair) (v : Word) :
    (u.setStackPair p v).wake = u.wake := by cases p <;> rfl

/-! ### Updates of the machine that reach the CPU alone -/

@[simp] theorem State.setReg_cpu (s : State) (r : Reg8) (v : Byte) :
    (s.setReg r v).cpu = s.cpu.setReg r v := rfl
@[simp] theorem State.setReg_timer (s : State) (r : Reg8) (v : Byte) :
    (s.setReg r v).timer = s.timer := rfl
@[simp] theorem State.setReg_lcd (s : State) (r : Reg8) (v : Byte) :
    (s.setReg r v).lcd = s.lcd := rfl
@[simp] theorem State.setReg_joypad (s : State) (r : Reg8) (v : Byte) :
    (s.setReg r v).joypad = s.joypad := rfl
@[simp] theorem State.setReg_wram (s : State) (r : Reg8) (v : Byte) :
    (s.setReg r v).wram = s.wram := rfl
@[simp] theorem State.setReg_bootEn (s : State) (r : Reg8) (v : Byte) :
    (s.setReg r v).bootEn = s.bootEn := rfl
@[simp] theorem State.setReg_bootRom (s : State) (r : Reg8) (v : Byte) :
    (s.setReg r v).bootRom = s.bootRom := rfl
@[simp] theorem State.setReg_cartridge (s : State) (r : Reg8) (v : Byte) :
    (s.setReg r v).cartridge = s.cartridge := rfl
@[simp] theorem State.setReg_cycle (s : State) (r : Reg8) (v : Byte) :
    (s.setReg r v).cycle = s.cycle := rfl
@[simp] theorem State.setReg_fault (s : State) (r : Reg8) (v : Byte) :
    (s.setReg r v).fault = s.fault := rfl
@[simp] theorem State.setF_cpu (s : State) (v : Byte) : (s.setF v).cpu = s.cpu.setF v := rfl
@[simp] theorem State.setF_timer (s : State) (v : Byte) : (s.setF v).timer = s.timer := rfl
@[simp] theorem State.setF_lcd (s : State) (v : Byte) : (s.setF v).lcd = s.lcd := rfl
@[simp] theorem State.setF_joypad (s : State) (v : Byte) : (s.setF v).joypad = s.joypad := rfl
@[simp] theorem State.setF_wram (s : State) (v : Byte) : (s.setF v).wram = s.wram := rfl
@[simp] theorem State.setF_bootEn (s : State) (v : Byte) : (s.setF v).bootEn = s.bootEn := rfl
@[simp] theorem State.setF_bootRom (s : State) (v : Byte) : (s.setF v).bootRom = s.bootRom := rfl
@[simp] theorem State.setF_cartridge (s : State) (v : Byte) :
    (s.setF v).cartridge = s.cartridge := rfl
@[simp] theorem State.setF_cycle (s : State) (v : Byte) : (s.setF v).cycle = s.cycle := rfl
@[simp] theorem State.setF_fault (s : State) (v : Byte) : (s.setF v).fault = s.fault := rfl
@[simp] theorem State.setHL_cpu (s : State) (v : Word) : (s.setHL v).cpu = s.cpu.setHL v := rfl
@[simp] theorem State.setHL_timer (s : State) (v : Word) : (s.setHL v).timer = s.timer := rfl
@[simp] theorem State.setHL_lcd (s : State) (v : Word) : (s.setHL v).lcd = s.lcd := rfl
@[simp] theorem State.setHL_joypad (s : State) (v : Word) : (s.setHL v).joypad = s.joypad := rfl
@[simp] theorem State.setHL_wram (s : State) (v : Word) : (s.setHL v).wram = s.wram := rfl
@[simp] theorem State.setHL_bootEn (s : State) (v : Word) : (s.setHL v).bootEn = s.bootEn := rfl
@[simp] theorem State.setHL_bootRom (s : State) (v : Word) : (s.setHL v).bootRom = s.bootRom := rfl
@[simp] theorem State.setHL_cartridge (s : State) (v : Word) :
    (s.setHL v).cartridge = s.cartridge := rfl
@[simp] theorem State.setHL_cycle (s : State) (v : Word) : (s.setHL v).cycle = s.cycle := rfl
@[simp] theorem State.setHL_fault (s : State) (v : Word) : (s.setHL v).fault = s.fault := rfl
@[simp] theorem State.setSP_cpu (s : State) (v : Word) :
    (s.setSP v).cpu = { s.cpu with sp := v } := rfl
@[simp] theorem State.setSP_timer (s : State) (v : Word) : (s.setSP v).timer = s.timer := rfl
@[simp] theorem State.setSP_lcd (s : State) (v : Word) : (s.setSP v).lcd = s.lcd := rfl
@[simp] theorem State.setSP_joypad (s : State) (v : Word) : (s.setSP v).joypad = s.joypad := rfl
@[simp] theorem State.setSP_wram (s : State) (v : Word) : (s.setSP v).wram = s.wram := rfl
@[simp] theorem State.setSP_bootEn (s : State) (v : Word) : (s.setSP v).bootEn = s.bootEn := rfl
@[simp] theorem State.setSP_bootRom (s : State) (v : Word) : (s.setSP v).bootRom = s.bootRom := rfl
@[simp] theorem State.setSP_cartridge (s : State) (v : Word) :
    (s.setSP v).cartridge = s.cartridge := rfl
@[simp] theorem State.setSP_cycle (s : State) (v : Word) : (s.setSP v).cycle = s.cycle := rfl
@[simp] theorem State.setSP_fault (s : State) (v : Word) : (s.setSP v).fault = s.fault := rfl
@[simp] theorem State.setIME_cpu (s : State) (v : Bool) :
    (s.setIME v).cpu = { s.cpu with ime := v } := rfl
@[simp] theorem State.setIME_timer (s : State) (v : Bool) : (s.setIME v).timer = s.timer := rfl
@[simp] theorem State.setIME_lcd (s : State) (v : Bool) : (s.setIME v).lcd = s.lcd := rfl
@[simp] theorem State.setIME_joypad (s : State) (v : Bool) : (s.setIME v).joypad = s.joypad := rfl
@[simp] theorem State.setIME_wram (s : State) (v : Bool) : (s.setIME v).wram = s.wram := rfl
@[simp] theorem State.setIME_bootEn (s : State) (v : Bool) : (s.setIME v).bootEn = s.bootEn := rfl
@[simp] theorem State.setIME_bootRom (s : State) (v : Bool) :
    (s.setIME v).bootRom = s.bootRom := rfl
@[simp] theorem State.setIME_cartridge (s : State) (v : Bool) :
    (s.setIME v).cartridge = s.cartridge := rfl
@[simp] theorem State.setIME_cycle (s : State) (v : Bool) : (s.setIME v).cycle = s.cycle := rfl
@[simp] theorem State.setIME_fault (s : State) (v : Bool) : (s.setIME v).fault = s.fault := rfl
@[simp] theorem State.retire_cpu (s : State) (npc : Word) (n : Nat) :
    (s.retire npc n).cpu = { s.cpu with pc := npc, wake := s.cpu.wake.map (· + n) } := rfl
@[simp] theorem State.retire_timer (s : State) (npc : Word) (n : Nat) :
    (s.retire npc n).timer = s.timer := rfl
@[simp] theorem State.retire_lcd (s : State) (npc : Word) (n : Nat) :
    (s.retire npc n).lcd = s.lcd := rfl
@[simp] theorem State.retire_joypad (s : State) (npc : Word) (n : Nat) :
    (s.retire npc n).joypad = s.joypad := rfl
@[simp] theorem State.retire_wram (s : State) (npc : Word) (n : Nat) :
    (s.retire npc n).wram = s.wram := rfl
@[simp] theorem State.retire_bootEn (s : State) (npc : Word) (n : Nat) :
    (s.retire npc n).bootEn = s.bootEn := rfl
@[simp] theorem State.retire_bootRom (s : State) (npc : Word) (n : Nat) :
    (s.retire npc n).bootRom = s.bootRom := rfl
@[simp] theorem State.retire_cartridge (s : State) (npc : Word) (n : Nat) :
    (s.retire npc n).cartridge = s.cartridge := rfl
@[simp] theorem State.retire_cycle (s : State) (npc : Word) (n : Nat) :
    (s.retire npc n).cycle = s.cycle := rfl
@[simp] theorem State.retire_fault (s : State) (npc : Word) (n : Nat) :
    (s.retire npc n).fault = s.fault := rfl
@[simp] theorem State.raise_cpu (s : State) (i : IntSource) :
    (s.raise i).cpu = { s.cpu with iflag := s.cpu.iflag ||| i.mask } := rfl
@[simp] theorem State.raise_timer (s : State) (i : IntSource) : (s.raise i).timer = s.timer := rfl
@[simp] theorem State.raise_lcd (s : State) (i : IntSource) : (s.raise i).lcd = s.lcd := rfl
@[simp] theorem State.raise_joypad (s : State) (i : IntSource) :
    (s.raise i).joypad = s.joypad := rfl
@[simp] theorem State.raise_wram (s : State) (i : IntSource) : (s.raise i).wram = s.wram := rfl
@[simp] theorem State.raise_bootEn (s : State) (i : IntSource) :
    (s.raise i).bootEn = s.bootEn := rfl
@[simp] theorem State.raise_bootRom (s : State) (i : IntSource) :
    (s.raise i).bootRom = s.bootRom := rfl
@[simp] theorem State.raise_cartridge (s : State) (i : IntSource) :
    (s.raise i).cartridge = s.cartridge := rfl
@[simp] theorem State.raise_cycle (s : State) (i : IntSource) : (s.raise i).cycle = s.cycle := rfl
@[simp] theorem State.raise_fault (s : State) (i : IntSource) : (s.raise i).fault = s.fault := rfl
@[simp] theorem State.dropped16_cpu (s : State) :
    (s.dropped16).cpu = { s.cpu with sp := s.cpu.sp + 2 } := rfl
@[simp] theorem State.dropped16_timer (s : State) : (s.dropped16).timer = s.timer := rfl
@[simp] theorem State.dropped16_lcd (s : State) : (s.dropped16).lcd = s.lcd := rfl
@[simp] theorem State.dropped16_joypad (s : State) : (s.dropped16).joypad = s.joypad := rfl
@[simp] theorem State.dropped16_wram (s : State) : (s.dropped16).wram = s.wram := rfl
@[simp] theorem State.dropped16_bootEn (s : State) : (s.dropped16).bootEn = s.bootEn := rfl
@[simp] theorem State.dropped16_bootRom (s : State) : (s.dropped16).bootRom = s.bootRom := rfl
@[simp] theorem State.dropped16_cartridge (s : State) : (s.dropped16).cartridge = s.cartridge := rfl
@[simp] theorem State.dropped16_cycle (s : State) : (s.dropped16).cycle = s.cycle := rfl
@[simp] theorem State.dropped16_fault (s : State) : (s.dropped16).fault = s.fault := rfl

/-! ### Updates of the machine outside the CPU -/

@[simp] theorem State.raiseFatal_cpu (s : State) (r : FaultRecord) :
    (s.raiseFatal r).cpu = s.cpu := rfl
@[simp] theorem State.raiseFatal_timer (s : State) (r : FaultRecord) :
    (s.raiseFatal r).timer = s.timer := rfl
@[simp] theorem State.raiseFatal_lcd (s : State) (r : FaultRecord) :
    (s.raiseFatal r).lcd = s.lcd := rfl
@[simp] theorem State.raiseFatal_joypad (s : State) (r : FaultRecord) :
    (s.raiseFatal r).joypad = s.joypad := rfl
@[simp] theorem State.raiseFatal_wram (s : State) (r : FaultRecord) :
    (s.raiseFatal r).wram = s.wram := rfl
@[simp] theorem State.raiseFatal_bootEn (s : State) (r : FaultRecord) :
    (s.raiseFatal r).bootEn = s.bootEn := rfl
@[simp] theorem State.raiseFatal_bootRom (s : State) (r : FaultRecord) :
    (s.raiseFatal r).bootRom = s.bootRom := rfl
@[simp] theorem State.raiseFatal_cartridge (s : State) (r : FaultRecord) :
    (s.raiseFatal r).cartridge = s.cartridge := rfl
@[simp] theorem State.raiseFatal_cycle (s : State) (r : FaultRecord) :
    (s.raiseFatal r).cycle = s.cycle := rfl
@[simp] theorem State.raiseFatal_fault (s : State) (r : FaultRecord) :
    (s.raiseFatal r).fault = some r := rfl
@[simp] theorem State.advanceCycle_cpu (s : State) : (s.advanceCycle).cpu = s.cpu := rfl
@[simp] theorem State.advanceCycle_timer (s : State) : (s.advanceCycle).timer = s.timer := rfl
@[simp] theorem State.advanceCycle_lcd (s : State) : (s.advanceCycle).lcd = s.lcd := rfl
@[simp] theorem State.advanceCycle_joypad (s : State) : (s.advanceCycle).joypad = s.joypad := rfl
@[simp] theorem State.advanceCycle_wram (s : State) : (s.advanceCycle).wram = s.wram := rfl
@[simp] theorem State.advanceCycle_bootEn (s : State) : (s.advanceCycle).bootEn = s.bootEn := rfl
@[simp] theorem State.advanceCycle_bootRom (s : State) : (s.advanceCycle).bootRom = s.bootRom := rfl
@[simp] theorem State.advanceCycle_cartridge (s : State) :
    (s.advanceCycle).cartridge = s.cartridge := rfl
@[simp] theorem State.advanceCycle_cycle (s : State) : (s.advanceCycle).cycle = s.cycle + 1 := rfl
@[simp] theorem State.advanceCycle_fault (s : State) : (s.advanceCycle).fault = s.fault := rfl
@[simp] theorem State.setPhase_cpu (s : State) (p : Phase) : (s.setPhase p).cpu = s.cpu := rfl
@[simp] theorem State.setPhase_timer (s : State) (p : Phase) : (s.setPhase p).timer = s.timer := rfl
@[simp] theorem State.setPhase_lcd (s : State) (p : Phase) :
    (s.setPhase p).lcd = { s.lcd with phase := p } := rfl
@[simp] theorem State.setPhase_joypad (s : State) (p : Phase) :
    (s.setPhase p).joypad = s.joypad := rfl
@[simp] theorem State.setPhase_wram (s : State) (p : Phase) : (s.setPhase p).wram = s.wram := rfl
@[simp] theorem State.setPhase_bootEn (s : State) (p : Phase) :
    (s.setPhase p).bootEn = s.bootEn := rfl
@[simp] theorem State.setPhase_bootRom (s : State) (p : Phase) :
    (s.setPhase p).bootRom = s.bootRom := rfl
@[simp] theorem State.setPhase_cartridge (s : State) (p : Phase) :
    (s.setPhase p).cartridge = s.cartridge := rfl
@[simp] theorem State.setPhase_cycle (s : State) (p : Phase) : (s.setPhase p).cycle = s.cycle := rfl
@[simp] theorem State.setPhase_fault (s : State) (p : Phase) : (s.setPhase p).fault = s.fault := rfl
@[simp] theorem State.scheduleLcd_cpu (s : State) (n : Nat) : (s.scheduleLcd n).cpu = s.cpu := rfl
@[simp] theorem State.scheduleLcd_timer (s : State) (n : Nat) :
    (s.scheduleLcd n).timer = s.timer := rfl
@[simp] theorem State.scheduleLcd_lcd (s : State) (n : Nat) :
    (s.scheduleLcd n).lcd = { s.lcd with next := some (s.cycle + n) } := rfl
@[simp] theorem State.scheduleLcd_joypad (s : State) (n : Nat) :
    (s.scheduleLcd n).joypad = s.joypad := rfl
@[simp] theorem State.scheduleLcd_wram (s : State) (n : Nat) :
    (s.scheduleLcd n).wram = s.wram := rfl
@[simp] theorem State.scheduleLcd_bootEn (s : State) (n : Nat) :
    (s.scheduleLcd n).bootEn = s.bootEn := rfl
@[simp] theorem State.scheduleLcd_bootRom (s : State) (n : Nat) :
    (s.scheduleLcd n).bootRom = s.bootRom := rfl
@[simp] theorem State.scheduleLcd_cartridge (s : State) (n : Nat) :
    (s.scheduleLcd n).cartridge = s.cartridge := rfl
@[simp] theorem State.scheduleLcd_cycle (s : State) (n : Nat) :
    (s.scheduleLcd n).cycle = s.cycle := rfl
@[simp] theorem State.scheduleLcd_fault (s : State) (n : Nat) :
    (s.scheduleLcd n).fault = s.fault := rfl
@[simp] theorem State.beginFrame_cpu (s : State) : (s.beginFrame).cpu = s.cpu := rfl
@[simp] theorem State.beginFrame_timer (s : State) : (s.beginFrame).timer = s.timer := rfl
@[simp] theorem State.beginFrame_lcd (s : State) :
    (s.beginFrame).lcd = { s.lcd with frameBuf := some [], wline := 0 } := rfl
@[simp] theorem State.beginFrame_joypad (s : State) : (s.beginFrame).joypad = s.joypad := rfl
@[simp] theorem State.beginFrame_wram (s : State) : (s.beginFrame).wram = s.wram := rfl
@[simp] theorem State.beginFrame_bootEn (s : State) : (s.beginFrame).bootEn = s.bootEn := rfl
@[simp] theorem State.beginFrame_bootRom (s : State) : (s.beginFrame).bootRom = s.bootRom := rfl
@[simp] theorem State.beginFrame_cartridge (s : State) :
    (s.beginFrame).cartridge = s.cartridge := rfl
@[simp] theorem State.beginFrame_cycle (s : State) : (s.beginFrame).cycle = s.cycle := rfl
@[simp] theorem State.beginFrame_fault (s : State) : (s.beginFrame).fault = s.fault := rfl
@[simp] theorem State.startDma_cpu (s : State) (v : Byte) : (s.startDma v).cpu = s.cpu := rfl
@[simp] theorem State.startDma_timer (s : State) (v : Byte) : (s.startDma v).timer = s.timer := rfl
@[simp] theorem State.startDma_lcd (s : State) (v : Byte) :
    (s.startDma v).lcd = { s.lcd with dma := v, dmaSrc := v, dmaIdx := 0, dmaActive := true } := rfl
@[simp] theorem State.startDma_joypad (s : State) (v : Byte) :
    (s.startDma v).joypad = s.joypad := rfl
@[simp] theorem State.startDma_wram (s : State) (v : Byte) : (s.startDma v).wram = s.wram := rfl
@[simp] theorem State.startDma_bootEn (s : State) (v : Byte) :
    (s.startDma v).bootEn = s.bootEn := rfl
@[simp] theorem State.startDma_bootRom (s : State) (v : Byte) :
    (s.startDma v).bootRom = s.bootRom := rfl
@[simp] theorem State.startDma_cartridge (s : State) (v : Byte) :
    (s.startDma v).cartridge = s.cartridge := rfl
@[simp] theorem State.startDma_cycle (s : State) (v : Byte) : (s.startDma v).cycle = s.cycle := rfl
@[simp] theorem State.startDma_fault (s : State) (v : Byte) : (s.startDma v).fault = s.fault := rfl

end Sys2Proof.Machine
end

