-- ==== Sys2Proof/Laws/Bus.lean ====
section
/-! SUPPORT. What each device operation and a bus write can change, said once; and the owner of each
address. -/

namespace Sys2Proof.Machine

/-! ### What a device can change -/

/-- `t` differs from `s` at most in the timer, the LCD controller, the joypad and IF. -/
def DeviceChange (s t : State) : Prop :=
  ∃ timer lcd joypad iflag, t =
    { s with timer := timer, lcd := lcd, joypad := joypad, cpu := { s.cpu with iflag := iflag } }

theorem DeviceChange.refl (s : State) : DeviceChange s s := ⟨_, _, _, _, rfl⟩

theorem DeviceChange.trans {s t u : State} (h : DeviceChange s t) (k : DeviceChange t u) :
    DeviceChange s u := by
  obtain ⟨_, _, _, _, rfl⟩ := h
  obtain ⟨_, _, _, _, rfl⟩ := k
  exact ⟨_, _, _, _, rfl⟩

theorem DeviceChange.ite {s t u : State} {c : Prop} [Decidable c] (h : DeviceChange s t)
    (k : DeviceChange s u) : DeviceChange s (if c then t else u) := by
  split
  · exact h
  · exact k

theorem raise_change (s : State) (i : IntSource) : DeviceChange s (s.raise i) := ⟨_, _, _, _, rfl⟩

theorem lcd_change (s : State) (l : Lcd) : DeviceChange s { s with lcd := l } := ⟨_, _, _, _, rfl⟩

theorem timer_change (s : State) (t : Timer) : DeviceChange s { s with timer := t } :=
  ⟨_, _, _, _, rfl⟩

theorem joypad_change (s : State) (j : Joypad) : DeviceChange s { s with joypad := j } :=
  ⟨_, _, _, _, rfl⟩

theorem incIfFalling_change (s : State) (b : Bool) : DeviceChange s (s.incIfFalling b) := by
  unfold State.incIfFalling
  exact .ite (.ite ((timer_change s _).trans (raise_change _ _)) (timer_change s _)) (.refl s)

theorem timerStep_change (s : State) : DeviceChange s (timerStep s) :=
  (timer_change s _).trans (incIfFalling_change _ _)

theorem compareLine_change (s : State) : DeviceChange s s.compareLine := by
  unfold State.compareLine
  exact .ite ((lcd_change s _).trans (raise_change _ _)) (lcd_change s _)

theorem setLine_change (s : State) (v : Byte) : DeviceChange s (s.setLine v) :=
  (lcd_change s _).trans (compareLine_change _)

theorem enterMode_change (s : State) (m : BitVec 2) : DeviceChange s (s.enterMode m) := by
  have h1 := lcd_change s { s.lcd with stat := statWithMode s.lcd.stat m }
  have h2 := h1.trans (raise_change _ .lcdStat)
  unfold State.enterMode
  dsimp only
  split
  · split
    · exact h2.trans (raise_change _ _)
    · exact h1.trans (raise_change _ _)
  · exact .ite h2 h1

theorem setPhase_change (s : State) (p : Phase) : DeviceChange s (s.setPhase p) := lcd_change s _

theorem scheduleLcd_change (s : State) (n : Nat) : DeviceChange s (s.scheduleLcd n) :=
  lcd_change s _

theorem beginFrame_change (s : State) : DeviceChange s s.beginFrame := lcd_change s _

theorem appendLine_change (s : State) : DeviceChange s s.appendLine := lcd_change s _

theorem publishFrame_change (s : State) : DeviceChange s s.publishFrame := by
  unfold State.publishFrame
  split
  · exact lcd_change s _
  · exact .refl s

theorem enterLine_change (s : State) (l : Byte) : DeviceChange s (s.enterLine l) := by
  unfold State.enterLine
  exact (((DeviceChange.ite (beginFrame_change s) (.refl s)).trans (setLine_change _ _)).trans
    (setPhase_change _ _)).trans ((enterMode_change _ _).trans (scheduleLcd_change _ _))

theorem endMode2_change (s : State) : DeviceChange s s.endMode2 :=
  (((setPhase_change s _).trans (enterMode_change _ _)).trans (appendLine_change _)).trans
    (scheduleLcd_change _ _)

theorem endMode3_change (s : State) : DeviceChange s s.endMode3 :=
  ((setPhase_change s _).trans (enterMode_change _ _)).trans (scheduleLcd_change _ _)

theorem endMode0_change (s : State) : DeviceChange s s.endMode0 := by
  unfold State.endMode0
  exact .ite (enterLine_change s _) (((((setPhase_change s _).trans (setLine_change _ _)).trans
    (enterMode_change _ _)).trans (publishFrame_change _)).trans (scheduleLcd_change _ _))

theorem stepMode1_change (s : State) : DeviceChange s s.stepMode1 := by
  unfold State.stepMode1
  exact .ite ((setLine_change s _).trans (scheduleLcd_change _ _)) (enterLine_change s _)

theorem modeStep_change (s : State) : DeviceChange s (modeStep s) := by
  unfold modeStep
  split
  · split
    · exact .refl s
    · exact enterLine_change s _
    · exact endMode2_change s
    · exact endMode3_change s
    · exact endMode0_change s
    · exact stepMode1_change s
  · exact .refl s

theorem dmaStep_change (s : State) : DeviceChange s (dmaStep s) := by
  unfold dmaStep
  exact .ite (lcd_change s _) (.refl s)

theorem lcdStep_change (s : State) : DeviceChange s (lcdStep s) :=
  (dmaStep_change s).trans (modeStep_change _)

/-- The devices' part of a tick changes the timer, the LCD controller and IF alone. -/
theorem deviceSteps_change (s : State) : DeviceChange s (deviceSteps s) :=
  (timerStep_change s).trans (lcdStep_change _)

theorem recompute_change (s : State) (old : BitVec 6) : DeviceChange s (s.recompute old) := by
  unfold State.recompute
  exact .ite ((joypad_change s _).trans (raise_change _ _)) (joypad_change s _)

theorem keyPressed_change (k : Key) (s : State) : DeviceChange s (keyPressed k s) :=
  (joypad_change s _).trans (recompute_change _ _)

theorem keyReleased_change (k : Key) (s : State) : DeviceChange s (keyReleased k s) :=
  (joypad_change s _).trans (recompute_change _ _)

theorem timerWrite_change (s : State) (a : Nat) (v : Byte) : DeviceChange s (timerWrite s a v) := by
  unfold timerWrite
  exact .ite ((timer_change s _).trans (incIfFalling_change _ _)) <|
    .ite (timer_change s _) <| .ite (timer_change s _) <|
    .ite ((timer_change s _).trans (incIfFalling_change _ _)) (.refl s)

theorem writeLcdc_change (s : State) (v : Byte) : DeviceChange s (s.writeLcdc v) := by
  have h := lcd_change s { s.lcd with lcdc := v }
  unfold State.writeLcdc
  exact .ite (h.trans ((setPhase_change _ _).trans (scheduleLcd_change _ _))) <|
    .ite (h.trans ((lcd_change _ _).trans (setLine_change _ _))) h

theorem lcdWrite_change (s : State) (a : Nat) (v : Byte) : DeviceChange s (lcdWrite s a v) := by
  unfold lcdWrite
  have plain := lcd_change s
  exact .ite (plain _) <| .ite (plain _) <| .ite (writeLcdc_change s v) <| .ite (plain _) <|
    .ite (plain _) <| .ite (plain _) <| .ite (.refl s) <|
    .ite ((plain _).trans (compareLine_change _)) <| .ite (plain _) <| .ite (plain _) <|
    .ite (plain _) <| .ite (plain _) <| .ite (plain _) <| .ite (plain _) (.refl s)

theorem joypadWrite_change (s : State) (a : Nat) (v : Byte) :
    DeviceChange s (joypadWrite s a v) := by
  unfold joypadWrite
  exact .ite ((joypad_change s _).trans (recompute_change _ _)) (.refl s)

/-! ### The owner of an address -/

theorem cpuWrite_outside {s : State} {a : Nat} (v : Byte) (h : a ≠ 0xFF0F)
    (h' : a < 0xFF80 ∨ 0xFFFF < a) : cpuWrite s a v = s := by
  unfold cpuWrite
  rw [if_neg h, if_neg (by omega), if_neg (by omega)]

theorem wramWrite_outside {s : State} {a : Nat} (v : Byte) (h : a < 0xC000 ∨ 0xE000 ≤ a) :
    wramWrite s a v = s := by
  unfold wramWrite
  rw [if_neg (by omega)]

theorem echoWrite_outside {s : State} {a : Nat} (v : Byte) (h : a < 0xE000 ∨ 0xFE00 ≤ a) :
    echoWrite s a v = s := by
  unfold echoWrite
  rw [if_neg (by omega)]

theorem romWrite_outside {s : State} {a : Nat} (h : a ≠ 0xFF50) : romWrite s a = s := by
  unfold romWrite
  rw [if_neg h]

theorem timerWrite_outside {s : State} {a : Nat} (v : Byte) (h : a < 0xFF04 ∨ 0xFF07 < a) :
    timerWrite s a v = s := by
  unfold timerWrite
  rw [if_neg (by omega), if_neg (by omega), if_neg (by omega), if_neg (by omega)]

theorem lcdWrite_outside {s : State} {a : Nat} (v : Byte) (h : a < 0x8000 ∨ 0xA000 ≤ a)
    (h' : a < 0xFE00 ∨ 0xFEA0 ≤ a) (h'' : a < 0xFF40 ∨ 0xFF4B < a) : lcdWrite s a v = s := by
  unfold lcdWrite
  repeat rw [if_neg (by omega)]

theorem joypadWrite_outside {s : State} {a : Nat} (v : Byte) (h : a ≠ 0xFF00) :
    joypadWrite s a v = s := by
  unfold joypadWrite
  rw [if_neg h]

/-- A write to an address of the CPU reaches the CPU alone. -/
theorem busWrite_cpu {s : State} {addr : Word} (v : Byte)
    (h : addr.toNat = 0xFF0F ∨ 0xFF80 ≤ addr.toNat) :
    s.busWrite addr v = cpuWrite s addr.toNat v := by
  have := addr.isLt
  unfold State.busWrite
  dsimp only
  rw [wramWrite_outside v (by omega), echoWrite_outside v (by omega), romWrite_outside (by omega),
    timerWrite_outside v (by omega), lcdWrite_outside v (by omega) (by omega) (by omega),
    joypadWrite_outside v (by omega)]

/-- A write to work RAM reaches work RAM alone. -/
theorem busWrite_wram {s : State} {addr : Word} (v : Byte)
    (h : 0xC000 ≤ addr.toNat ∧ addr.toNat < 0xE000) :
    s.busWrite addr v = { s with wram := s.wram.write (addr.toNat - 0xC000) v } := by
  unfold State.busWrite
  dsimp only
  rw [cpuWrite_outside v (by omega) (by omega), echoWrite_outside v (by omega),
    romWrite_outside (by omega), timerWrite_outside v (by omega),
    lcdWrite_outside v (by omega) (by omega) (by omega), joypadWrite_outside v (by omega),
    wramWrite, if_pos h]

/-- A write to the echo window reaches work RAM alone. -/
theorem busWrite_echo {s : State} {addr : Word} (v : Byte)
    (h : 0xE000 ≤ addr.toNat ∧ addr.toNat < 0xFE00) :
    s.busWrite addr v = { s with wram := s.wram.write (addr.toNat - 0xE000) v } := by
  unfold State.busWrite
  dsimp only
  rw [cpuWrite_outside v (by omega) (by omega), wramWrite_outside v (by omega),
    romWrite_outside (by omega), timerWrite_outside v (by omega),
    lcdWrite_outside v (by omega) (by omega) (by omega), joypadWrite_outside v (by omega),
    echoWrite, if_pos h]

/-- A write to the boot-ROM disable register clears BOOT_EN alone. -/
theorem busWrite_bootDisable {s : State} {addr : Word} (v : Byte) (h : addr.toNat = 0xFF50) :
    s.busWrite addr v = { s with bootEn := false } := by
  unfold State.busWrite
  dsimp only
  rw [cpuWrite_outside v (by omega) (by omega), wramWrite_outside v (by omega),
    echoWrite_outside v (by omega), timerWrite_outside v (by omega),
    lcdWrite_outside v (by omega) (by omega) (by omega), joypadWrite_outside v (by omega),
    romWrite, if_pos h]

/-- A write to a timer register reaches the timer alone. -/
theorem busWrite_timer {s : State} {addr : Word} (v : Byte)
    (h : 0xFF04 ≤ addr.toNat ∧ addr.toNat ≤ 0xFF07) :
    s.busWrite addr v = timerWrite s addr.toNat v := by
  unfold State.busWrite
  dsimp only
  rw [cpuWrite_outside v (by omega) (by omega), wramWrite_outside v (by omega),
    echoWrite_outside v (by omega), romWrite_outside (by omega),
    lcdWrite_outside v (by omega) (by omega) (by omega), joypadWrite_outside v (by omega)]

/-- A write to an address of the LCD controller reaches it alone. -/
theorem busWrite_lcd {s : State} {addr : Word} (v : Byte)
    (h : (0x8000 ≤ addr.toNat ∧ addr.toNat < 0xA000) ∨
      (0xFE00 ≤ addr.toNat ∧ addr.toNat < 0xFEA0) ∨
      (0xFF40 ≤ addr.toNat ∧ addr.toNat ≤ 0xFF4B)) :
    s.busWrite addr v = lcdWrite s addr.toNat v := by
  unfold State.busWrite
  dsimp only
  rw [cpuWrite_outside v (by omega) (by omega), wramWrite_outside v (by omega),
    echoWrite_outside v (by omega), romWrite_outside (by omega), timerWrite_outside v (by omega),
    joypadWrite_outside v (by omega)]

/-- A write to P1 reaches the joypad alone. -/
theorem busWrite_joypad {s : State} {addr : Word} (v : Byte) (h : addr.toNat = 0xFF00) :
    s.busWrite addr v = joypadWrite s addr.toNat v := by
  unfold State.busWrite
  dsimp only
  rw [cpuWrite_outside v (by omega) (by omega), wramWrite_outside v (by omega),
    echoWrite_outside v (by omega), romWrite_outside (by omega), timerWrite_outside v (by omega),
    lcdWrite_outside v (by omega) (by omega) (by omega)]

/-- An address whose writes do nothing: the cartridge and every unmapped address (R79, R83). -/
def Unwritable (a : Nat) : Prop :=
  a < 0x8000 ∨ (0xA000 ≤ a ∧ a < 0xC000) ∨ (0xFEA0 ≤ a ∧ a < 0xFF00) ∨ (0xFF01 ≤ a ∧ a < 0xFF04) ∨
    (0xFF08 ≤ a ∧ a < 0xFF0F) ∨ (0xFF10 ≤ a ∧ a < 0xFF40) ∨ (0xFF4C ≤ a ∧ a < 0xFF50) ∨
    (0xFF51 ≤ a ∧ a < 0xFF80)

theorem busWrite_unwritable {s : State} {addr : Word} (v : Byte) (h : Unwritable addr.toNat) :
    s.busWrite addr v = s := by
  unfold Unwritable at h
  unfold State.busWrite
  dsimp only
  rw [cpuWrite_outside v (by omega) (by omega), wramWrite_outside v (by omega),
    echoWrite_outside v (by omega), romWrite_outside (by omega), timerWrite_outside v (by omega),
    lcdWrite_outside v (by omega) (by omega) (by omega), joypadWrite_outside v (by omega)]

/-- Every bus write is one of these. -/
theorem busWrite_cases (s : State) (addr : Word) (v : Byte) :
    s.busWrite addr v = s ∨
    s.busWrite addr v = cpuWrite s addr.toNat v ∨
    (∃ k, k < 8192 ∧ s.busWrite addr v = { s with wram := s.wram.write k v }) ∨
    s.busWrite addr v = { s with bootEn := false } ∨
    s.busWrite addr v = timerWrite s addr.toNat v ∨
    s.busWrite addr v = lcdWrite s addr.toNat v ∨
    s.busWrite addr v = joypadWrite s addr.toNat v := by
  have := addr.isLt
  by_cases h1 : Unwritable addr.toNat
  · exact .inl (busWrite_unwritable v h1)
  by_cases h2 : addr.toNat = 0xFF0F ∨ 0xFF80 ≤ addr.toNat
  · exact .inr (.inl (busWrite_cpu v h2))
  by_cases h3 : 0xC000 ≤ addr.toNat ∧ addr.toNat < 0xE000
  · exact .inr (.inr (.inl ⟨_, by omega, busWrite_wram v h3⟩))
  by_cases h4 : 0xE000 ≤ addr.toNat ∧ addr.toNat < 0xFE00
  · exact .inr (.inr (.inl ⟨_, by omega, busWrite_echo v h4⟩))
  by_cases h5 : addr.toNat = 0xFF50
  · exact .inr (.inr (.inr (.inl (busWrite_bootDisable v h5))))
  by_cases h6 : 0xFF04 ≤ addr.toNat ∧ addr.toNat ≤ 0xFF07
  · exact .inr (.inr (.inr (.inr (.inl (busWrite_timer v h6)))))
  by_cases h7 : addr.toNat = 0xFF00
  · exact .inr (.inr (.inr (.inr (.inr (.inr (busWrite_joypad v h7))))))
  · refine .inr (.inr (.inr (.inr (.inr (.inl (busWrite_lcd v ?_))))))
    unfold Unwritable at h1
    omega

/-! ### What a bus write can change -/

/-- `t` differs from `s` at most in what the bus can write. -/
def BusChange (s t : State) : Prop :=
  ∃ timer lcd joypad iflag ie hram wram bootEn, t =
    { s with timer := timer, lcd := lcd, joypad := joypad, wram := wram, bootEn := bootEn
             cpu := { s.cpu with iflag := iflag, ie := ie, hram := hram } }

theorem BusChange.refl (s : State) : BusChange s s := ⟨_, _, _, _, _, _, _, _, rfl⟩

theorem BusChange.trans {s t u : State} (h : BusChange s t) (k : BusChange t u) :
    BusChange s u := by
  obtain ⟨_, _, _, _, _, _, _, _, rfl⟩ := h
  obtain ⟨_, _, _, _, _, _, _, _, rfl⟩ := k
  exact ⟨_, _, _, _, _, _, _, _, rfl⟩

theorem DeviceChange.toBus {s t : State} (h : DeviceChange s t) : BusChange s t := by
  obtain ⟨_, _, _, _, rfl⟩ := h
  exact ⟨_, _, _, _, _, _, _, _, rfl⟩

theorem cpuWrite_change (s : State) (a : Nat) (v : Byte) : BusChange s (cpuWrite s a v) := by
  unfold cpuWrite
  split_ifs
  · exact ⟨_, _, _, _, _, _, _, _, rfl⟩
  · exact ⟨_, _, _, _, _, _, _, _, rfl⟩
  · exact ⟨_, _, _, _, _, _, _, _, rfl⟩
  · exact .refl s

/-- A bus write changes no general register, PC, SP, IME, wake-up cycle, image, cycle counter or fault
state. -/
theorem busWrite_change (s : State) (addr : Word) (v : Byte) : BusChange s (s.busWrite addr v) := by
  rcases busWrite_cases s addr v with h | h | ⟨_, _, h⟩ | h | h | h | h <;> rw [h]
  · exact .refl s
  · exact cpuWrite_change s _ v
  · exact ⟨_, _, _, _, _, _, _, _, rfl⟩
  · exact ⟨_, _, _, _, _, _, _, _, rfl⟩
  · exact (timerWrite_change s _ v).toBus
  · exact (lcdWrite_change s _ v).toBus
  · exact (joypadWrite_change s _ v).toBus

theorem BusChange.fault {s t : State} (h : BusChange s t) : t.fault = s.fault := by
  obtain ⟨_, _, _, _, _, _, _, _, rfl⟩ := h
  rfl

theorem BusChange.cycle {s t : State} (h : BusChange s t) : t.cycle = s.cycle := by
  obtain ⟨_, _, _, _, _, _, _, _, rfl⟩ := h
  rfl

theorem BusChange.roms {s t : State} (h : BusChange s t) :
    t.bootRom = s.bootRom ∧ t.cartridge = s.cartridge := by
  obtain ⟨_, _, _, _, _, _, _, _, rfl⟩ := h
  exact ⟨rfl, rfl⟩

theorem BusChange.wake {s t : State} (h : BusChange s t) : t.cpu.wake = s.cpu.wake := by
  obtain ⟨_, _, _, _, _, _, _, _, rfl⟩ := h
  rfl

theorem BusChange.ime {s t : State} (h : BusChange s t) : t.cpu.ime = s.cpu.ime := by
  obtain ⟨_, _, _, _, _, _, _, _, rfl⟩ := h
  rfl

theorem BusChange.f {s t : State} (h : BusChange s t) : t.cpu.f = s.cpu.f := by
  obtain ⟨_, _, _, _, _, _, _, _, rfl⟩ := h
  rfl

theorem BusChange.sp {s t : State} (h : BusChange s t) : t.cpu.sp = s.cpu.sp := by
  obtain ⟨_, _, _, _, _, _, _, _, rfl⟩ := h
  rfl

theorem BusChange.reg {s t : State} (h : BusChange s t) (r : Reg8) :
    t.cpu.reg r = s.cpu.reg r := by
  obtain ⟨_, _, _, _, _, _, _, _, rfl⟩ := h
  cases r <;> rfl

/-! ### Reads, by the owner of the address -/

theorem cpuRead_outside {s : State} {a : Nat} (h : a ≠ 0xFF0F) (h' : a < 0xFF80 ∨ 0xFFFF < a) :
    cpuRead s a = none := by
  unfold cpuRead
  rw [if_neg h, if_neg (by omega), if_neg (by omega)]

theorem wramRead_outside {s : State} {a : Nat} (h : a < 0xC000 ∨ 0xE000 ≤ a) :
    wramRead s a = none := by
  unfold wramRead
  rw [if_neg (by omega)]

theorem echoRead_outside {s : State} {a : Nat} (h : a < 0xE000 ∨ 0xFE00 ≤ a) :
    echoRead s a = none := by
  unfold echoRead
  rw [if_neg (by omega)]

theorem romRead_outside {s : State} {a : Nat} (h : 0x8000 ≤ a) : romRead s a = none := by
  unfold romRead
  rw [if_neg (by omega), if_neg (by omega)]

theorem timerRead_outside {s : State} {a : Nat} (h : a < 0xFF04 ∨ 0xFF07 < a) :
    timerRead s a = none := by
  unfold timerRead
  rw [if_neg (by omega), if_neg (by omega), if_neg (by omega), if_neg (by omega)]

theorem lcdRead_outside {s : State} {a : Nat} (h : a < 0x8000 ∨ 0xA000 ≤ a)
    (h' : a < 0xFE00 ∨ 0xFEA0 ≤ a) (h'' : a < 0xFF40 ∨ 0xFF4B < a) : lcdRead s a = none := by
  unfold lcdRead
  repeat rw [if_neg (by omega)]

theorem joypadRead_outside {s : State} {a : Nat} (h : a ≠ 0xFF00) : joypadRead s a = none := by
  unfold joypadRead
  rw [if_neg h]

/-- A read of an address of the CPU is the CPU's answer. -/
theorem busRead_cpu {s : State} {addr : Word} (h : addr.toNat = 0xFF0F ∨ 0xFF80 ≤ addr.toNat) :
    s.busRead addr = (cpuRead s addr.toNat).getD Config.unmappedRead := by
  have := addr.isLt
  unfold State.busRead
  dsimp only
  rw [wramRead_outside (by omega), echoRead_outside (by omega), romRead_outside (by omega),
    timerRead_outside (by omega), lcdRead_outside (by omega) (by omega) (by omega),
    joypadRead_outside (by omega)]
  cases cpuRead s addr.toNat <;> rfl

/-- A read of work RAM. -/
theorem busRead_wram {s : State} {addr : Word} (h : 0xC000 ≤ addr.toNat ∧ addr.toNat < 0xE000) :
    s.busRead addr = s.wram.read (addr.toNat - 0xC000) := by
  unfold State.busRead
  dsimp only
  rw [cpuRead_outside (by omega) (by omega), wramRead, if_pos h]
  rfl

/-- A read of the echo window. -/
theorem busRead_echo {s : State} {addr : Word} (h : 0xE000 ≤ addr.toNat ∧ addr.toNat < 0xFE00) :
    s.busRead addr = s.wram.read (addr.toNat - 0xE000) := by
  unfold State.busRead
  dsimp only
  rw [cpuRead_outside (by omega) (by omega), wramRead_outside (by omega), echoRead, if_pos h]
  rfl

/-- A read of the cartridge's range, under the boot-ROM overlay. -/
theorem busRead_rom {s : State} {addr : Word} (h : addr.toNat < 0x8000) :
    s.busRead addr = if addr.toNat < 0x0100 ∧ s.bootEn = true then s.bootRom.read addr.toNat
      else s.cartridge.read addr.toNat := by
  unfold State.busRead
  dsimp only
  rw [cpuRead_outside (by omega) (by omega), wramRead_outside (by omega),
    echoRead_outside (by omega), romRead, if_pos h]
  split <;> rfl

/-- A read of a timer register is the timer's answer. -/
theorem busRead_timer {s : State} {addr : Word}
    (h : 0xFF04 ≤ addr.toNat ∧ addr.toNat ≤ 0xFF07) :
    s.busRead addr = (timerRead s addr.toNat).getD Config.unmappedRead := by
  unfold State.busRead
  dsimp only
  rw [cpuRead_outside (by omega) (by omega), wramRead_outside (by omega),
    echoRead_outside (by omega), romRead_outside (by omega),
    lcdRead_outside (by omega) (by omega) (by omega), joypadRead_outside (by omega)]
  cases timerRead s addr.toNat <;> rfl

/-- A read of an address of the LCD controller is its answer. -/
theorem busRead_lcd {s : State} {addr : Word}
    (h : (0x8000 ≤ addr.toNat ∧ addr.toNat < 0xA000) ∨
      (0xFE00 ≤ addr.toNat ∧ addr.toNat < 0xFEA0) ∨
      (0xFF40 ≤ addr.toNat ∧ addr.toNat ≤ 0xFF4B)) :
    s.busRead addr = (lcdRead s addr.toNat).getD Config.unmappedRead := by
  unfold State.busRead
  dsimp only
  rw [cpuRead_outside (by omega) (by omega), wramRead_outside (by omega),
    echoRead_outside (by omega), romRead_outside (by omega), timerRead_outside (by omega),
    joypadRead_outside (by omega)]
  cases lcdRead s addr.toNat <;> rfl

/-- A read of P1 is the joypad's answer. -/
theorem busRead_joypad {s : State} {addr : Word} (h : addr.toNat = 0xFF00) :
    s.busRead addr = (joypadRead s addr.toNat).getD Config.unmappedRead := by
  unfold State.busRead
  dsimp only
  rw [cpuRead_outside (by omega) (by omega), wramRead_outside (by omega),
    echoRead_outside (by omega), romRead_outside (by omega), timerRead_outside (by omega),
    lcdRead_outside (by omega) (by omega) (by omega)]
  cases joypadRead s addr.toNat <;> rfl

/-- No component answers a read of an unmapped address (R83). -/
theorem busRead_unmapped {s : State} {addr : Word} (h : 0x8000 ≤ addr.toNat)
    (h' : Unwritable addr.toNat ∨ addr.toNat = 0xFF50) : s.busRead addr = 0xFF := by
  unfold Unwritable at h'
  unfold State.busRead
  dsimp only
  rw [cpuRead_outside (by omega) (by omega), wramRead_outside (by omega),
    echoRead_outside (by omega), romRead_outside (by omega), timerRead_outside (by omega),
    lcdRead_outside (by omega) (by omega) (by omega), joypadRead_outside (by omega)]
  rfl

/-! ### Reads see the memories and the devices alone -/

/-- Two states that agree outside the CPU's own registers read alike at every address. -/
theorem busRead_congr {s t : State} (hi : t.cpu.iflag = s.cpu.iflag) (he : t.cpu.ie = s.cpu.ie)
    (hh : t.cpu.hram = s.cpu.hram) (hw : t.wram = s.wram) (hb : t.bootEn = s.bootEn)
    (hbr : t.bootRom = s.bootRom) (hc : t.cartridge = s.cartridge) (ht : t.timer = s.timer)
    (hl : t.lcd = s.lcd) (hj : t.joypad = s.joypad) (a : Word) : t.busRead a = s.busRead a := by
  unfold State.busRead cpuRead wramRead echoRead romRead timerRead lcdRead joypadRead
  rw [hi, he, hh, hw, hb, hbr, hc, ht, hl, hj]

@[simp] theorem busRead_setReg (s : State) (r : Reg8) (v : Byte) (a : Word) :
    (s.setReg r v).busRead a = s.busRead a := by
  apply busRead_congr <;> simp

@[simp] theorem busRead_setF (s : State) (v : Byte) (a : Word) :
    (s.setF v).busRead a = s.busRead a := rfl

@[simp] theorem busRead_setFlags {w : Nat} (s : State) (p : FlagPolicy) (r : AluResult w)
    (a : Word) : (s.setFlags p r).busRead a = s.busRead a := rfl

@[simp] theorem busRead_setHL (s : State) (v : Word) (a : Word) :
    (s.setHL v).busRead a = s.busRead a := rfl

@[simp] theorem busRead_setSP (s : State) (v : Word) (a : Word) :
    (s.setSP v).busRead a = s.busRead a := rfl

@[simp] theorem busRead_setIME (s : State) (v : Bool) (a : Word) :
    (s.setIME v).busRead a = s.busRead a := rfl

@[simp] theorem busRead_retire (s : State) (npc : Word) (n : Nat) (a : Word) :
    (s.retire npc n).busRead a = s.busRead a := rfl

@[simp] theorem busRead_raiseFatal (s : State) (r : FaultRecord) (a : Word) :
    (s.raiseFatal r).busRead a = s.busRead a := rfl

@[simp] theorem busRead_setPair (s : State) (p : Pair16) (v : Word) (a : Word) :
    State.busRead { s with cpu := s.cpu.setPair p v } a = s.busRead a := by
  apply busRead_congr <;> simp

@[simp] theorem busRead_setStackPair (s : State) (p : StackPair) (v : Word) (a : Word) :
    State.busRead { s with cpu := s.cpu.setStackPair p v } a = s.busRead a := by
  apply busRead_congr <;> simp

end Sys2Proof.Machine
end

