-- ==== Sys2Proof/Laws/Exec.lean ====
section
/-! SUPPORT. What an instruction can do, said once: it updates CPU registers and writes the bus at the
addresses `storedBytes` names, and ends by retiring, by halting or with a fault; and the same for an
interrupt service, a CPU step and a step. -/

namespace Sys2Proof.Machine

/-- `t` comes from `s` by updates of CPU registers and by bus writes, at these addresses in order. -/
inductive Moves (s : State) : List Word → State → Prop where
  | refl : Moves s [] s
  | setReg {ws t} (h : Moves s ws t) (r : Reg8) (v : Byte) : Moves s ws (t.setReg r v)
  | setF {ws t} (h : Moves s ws t) (v : Byte) : Moves s ws (t.setF v)
  | setHL {ws t} (h : Moves s ws t) (v : Word) : Moves s ws (t.setHL v)
  | setSP {ws t} (h : Moves s ws t) (v : Word) : Moves s ws (t.setSP v)
  | setIME {ws t} (h : Moves s ws t) (v : Bool) : Moves s ws (t.setIME v)
  | setPair {ws t} (h : Moves s ws t) (p : Pair16) (v : Word) :
      Moves s ws { t with cpu := t.cpu.setPair p v }
  | setStackPair {ws t} (h : Moves s ws t) (p : StackPair) (v : Word) :
      Moves s ws { t with cpu := t.cpu.setStackPair p v }
  | busWrite {ws t} (h : Moves s ws t) (a : Word) (v : Byte) :
      Moves s (ws ++ [a]) (t.busWrite a v)

/-- The answer of an instruction that stores at `ws`, moves PC and is charged 1 to 6 cycles. -/
inductive Retires (s : State) (ws : List Word) : Result State → Prop where
  | retire {t} (h : Moves s ws t) (npc : Word) (n : Nat) (hn : 1 ≤ n ∧ n ≤ 6) :
      Retires s ws (.next (t.retire npc n))

/-- What an instruction can answer. -/
inductive Ends (i : Instr) (s : State) : Result State → Prop where
  | retires {r} (h : Retires s (storedBytes i s) r) : Ends i s r
  | halts (h : i = .halt) :
      Ends i s (.next { s with cpu := { s.cpu with pc := s.nextPC 1, wake := none } })
  | faults (h : (∃ n, i = .stop n) ∨ i ∈ illegalRows.map Prod.snd) (r : FaultRecord) :
      Ends i s (.next (s.raiseFatal r))

/-! ### The shared forms -/

section Forms

variable (s : State)

theorem Moves.setFlags {s t : State} {ws : List Word} (h : Moves s ws t) {w : Nat} (p : FlagPolicy)
    (r : AluResult w) : Moves s ws (t.setFlags p r) := h.setF _

theorem push16_moves (v : Word) : Moves s (pushSlot s) (s.push16 v) :=
  ((Moves.refl.setSP _).busWrite _ _).busWrite _ _

/-- The addresses a read-change-write operand is stored to. -/
def Rmw8.slots (o : Rmw8) (s : State) : List Word :=
  match o with
  | .reg _ => []
  | .atHL => [s.cpu.hl]

theorem Rmw8.write_moves (o : Rmw8) (v : Byte) : Moves s (o.slots s) (o.write v s) := by
  cases o
  · exact Moves.refl.setReg _ _
  · exact Moves.refl.busWrite _ _

theorem ldReg_ends (dst : Reg8) (src : Src8) (len n : Nat) (s : State)
    (hn : 1 ≤ n ∧ n ≤ 6 := by decide) : Retires s [] (ldReg dst src len n s) :=
  .retire (Moves.refl.setReg _ _) _ _ hn

theorem ldStore_ends (addr : Word) (v : Byte) (len n : Nat) (s : State)
    (hn : 1 ≤ n ∧ n ≤ 6 := by decide) : Retires s [addr] (ldStore addr v len n s) :=
  .retire (Moves.refl.busWrite _ _) _ _ hn

theorem ldAFrom_ends (addr : Word) (len n : Nat) (s : State)
    (hn : 1 ≤ n ∧ n ≤ 6 := by decide) : Retires s [] (ldAFrom addr len n s) :=
  .retire (Moves.refl.setReg _ _) _ _ hn

theorem ldAStepHL_ends (delta : Word) (s : State) : Retires s [] (ldAStepHL delta s) :=
  .retire ((Moves.refl.setReg _ _).setHL _) _ _ (by decide)

theorem ldStepHLA_ends (delta : Word) (s : State) : Retires s [s.cpu.hl] (ldStepHLA delta s) :=
  .retire ((Moves.refl.busWrite _ _).setHL _) _ _ (by decide)

theorem ldPair_ends (p : Pair16) (nn : Word) (s : State) : Retires s [] (ldPair p nn s) :=
  .retire (Moves.refl.setPair _ _) _ _ (by decide)

theorem ldStoreSP_ends (nn : Word) (s : State) : Retires s [nn, nn + 1] (ldStoreSP nn s) :=
  .retire ((Moves.refl.busWrite _ _).busWrite _ _) _ _ (by decide)

theorem ldSPHL_ends (s : State) : Retires s [] (ldSPHL s) :=
  .retire (Moves.refl.setSP _) _ _ (by decide)

theorem pushPair_ends (p : StackPair) (s : State) : Retires s (pushSlot s) (pushPair p s) :=
  .retire (push16_moves s _) _ _ (by decide)

theorem popPair_ends (p : StackPair) (s : State) : Retires s [] (popPair p s) :=
  .retire ((Moves.refl.setSP _).setStackPair _ _) _ _ (by decide)

theorem aluA_ends (op : AluOp) (src : Src8) (len n : Nat) (s : State)
    (hn : 1 ≤ n ∧ n ≤ 6 := by decide) : Retires s [] (aluA op src len n s) := by
  unfold aluA
  dsimp only
  split
  · exact .retire ((Moves.refl.setReg _ _).setFlags _ _) _ _ hn
  · exact .retire (Moves.refl.setFlags _ _) _ _ hn

theorem incByte_ends (o : Rmw8) (n : Nat) (s : State) (hn : 1 ≤ n ∧ n ≤ 6 := by decide) :
    Retires s (o.slots s) (incByte o n s) :=
  .retire ((o.write_moves s _).setFlags _ _) _ _ hn

theorem decByte_ends (o : Rmw8) (n : Nat) (s : State) (hn : 1 ≤ n ∧ n ≤ 6 := by decide) :
    Retires s (o.slots s) (decByte o n s) :=
  .retire ((o.write_moves s _).setFlags _ _) _ _ hn

theorem adjustA_ends (s : State) : Retires s [] (adjustA s) :=
  .retire ((Moves.refl.setReg _ _).setFlags _ _) _ _ (by decide)

theorem complementA_ends (s : State) : Retires s [] (complementA s) :=
  .retire ((Moves.refl.setReg _ _).setFlags _ _) _ _ (by decide)

theorem setCarry_ends (s : State) : Retires s [] (setCarry s) :=
  .retire (Moves.refl.setFlags _ _) _ _ (by decide)

theorem complementCarry_ends (s : State) : Retires s [] (complementCarry s) :=
  .retire (Moves.refl.setFlags _ _) _ _ (by decide)

theorem stepPair_ends (p : Pair16) (delta : Word) (s : State) : Retires s [] (stepPair p delta s) :=
  .retire (Moves.refl.setPair _ _) _ _ (by decide)

theorem addToHL_ends (p : Pair16) (s : State) : Retires s [] (addToHL p s) :=
  .retire ((Moves.refl.setHL _).setFlags _ _) _ _ (by decide)

theorem addToSP_ends (e : Byte) (s : State) : Retires s [] (addToSP e s) :=
  .retire ((Moves.refl.setSP _).setFlags _ _) _ _ (by decide)

theorem ldHLFromSP_ends (e : Byte) (s : State) : Retires s [] (ldHLFromSP e s) :=
  .retire ((Moves.refl.setHL _).setFlags _ _) _ _ (by decide)

theorem rotateA_ends (op : RotOp) (s : State) : Retires s [] (rotateA op s) :=
  .retire ((Moves.refl.setReg _ _).setFlags _ _) _ _ (by decide)

theorem rotateByte_ends (op : RotOp) (o : Rmw8) (n : Nat) (s : State)
    (hn : 1 ≤ n ∧ n ≤ 6 := by decide) : Retires s (o.slots s) (rotateByte op o n s) :=
  .retire ((o.write_moves s _).setFlags _ _) _ _ hn

theorem bitByte_ends (b : Nat) (o : Rmw8) (n : Nat) (s : State)
    (hn : 1 ≤ n ∧ n ≤ 6 := by decide) : Retires s [] (bitByte b o n s) :=
  .retire (Moves.refl.setFlags _ _) _ _ hn

theorem resByte_ends (b : Nat) (o : Rmw8) (n : Nat) (s : State)
    (hn : 1 ≤ n ∧ n ≤ 6 := by decide) : Retires s (o.slots s) (resByte b o n s) :=
  .retire (o.write_moves s _) _ _ hn

theorem setByte_ends (b : Nat) (o : Rmw8) (n : Nat) (s : State)
    (hn : 1 ≤ n ∧ n ≤ 6 := by decide) : Retires s (o.slots s) (setByte b o n s) :=
  .retire (o.write_moves s _) _ _ hn

theorem jumpTo_ends (target : Word) (n : Nat) (s : State) (hn : 1 ≤ n ∧ n ≤ 6 := by decide) :
    Retires s [] (jumpTo target n s) := .retire .refl _ _ hn

theorem jumpIf_ends (cc : Cond) (target : Word) (len n extra : Nat) (s : State)
    (hn : 1 ≤ n ∧ n + extra ≤ 6 := by decide) : Retires s [] (jumpIf cc target len n extra s) := by
  unfold jumpIf
  split
  · exact .retire .refl _ _ (by omega)
  · exact .retire .refl _ _ (by omega)

theorem callTo_ends (target : Word) (len n : Nat) (s : State)
    (hn : 1 ≤ n ∧ n ≤ 6 := by decide) : Retires s (pushSlot s) (callTo target len n s) :=
  .retire (push16_moves s _) _ _ hn

theorem callIf_ends (cc : Cond) (target : Word) (n extra : Nat) (s : State)
    (hn : 1 ≤ n ∧ n + extra ≤ 6 := by decide) :
    Retires s (if condHolds cc s.cpu then pushSlot s else []) (callIf cc target n extra s) := by
  unfold callIf
  split
  · exact .retire (push16_moves s _) _ _ (by omega)
  · exact .retire .refl _ _ (by omega)

theorem returnTo_ends (n : Nat) (s : State) (hn : 1 ≤ n ∧ n ≤ 6 := by decide) :
    Retires s [] (returnTo n s) := .retire (Moves.refl.setSP _) _ _ hn

theorem returnIf_ends (cc : Cond) (n extra : Nat) (s : State)
    (hn : 1 ≤ n ∧ n + extra ≤ 6 := by decide) : Retires s [] (returnIf cc n extra s) := by
  unfold returnIf
  split
  · exact .retire (Moves.refl.setSP _) _ _ (by omega)
  · exact .retire .refl _ _ (by omega)

theorem setMaster_ends (v : Bool) (s : State) : Retires s [] (setMaster v s) :=
  .retire (Moves.refl.setIME _) _ _ (by decide)

end Forms

/-! ### Every instruction -/

theorem storedBytes_ld_atN16_a (nn : Word) (s : State) :
    storedBytes (.ld_atN16_a nn) s = [nn] := by
  show [word16 (immHi nn) (immLo nn)] = [nn]
  rw [word16_imm]

theorem storedBytes_ld_atN16_sp (nn : Word) (s : State) :
    storedBytes (.ld_atN16_sp nn) s = [nn, nn + 1] := by
  show [word16 (immHi nn) (immLo nn), word16 (immHi nn) (immLo nn) + 1] = [nn, nn + 1]
  rw [word16_imm]

/-- What an instruction can do. -/
theorem exec_ends (i : Instr) (s : State) : Ends i s (exec i s) :=
  match i with
  | .nop => .retires (.retire .refl _ _ (by decide))
  | .ld_bc_n16 nn => .retires (ldPair_ends .bc nn s)
  | .ld_atBC_a => .retires (ldStore_ends (s.cpu.pair .bc) s.cpu.a 1 2 s)
  | .inc_bc => .retires (stepPair_ends .bc 1 s)
  | .inc_b => .retires (incByte_ends (.reg .b) 1 s)
  | .dec_b => .retires (decByte_ends (.reg .b) 1 s)
  | .ld_b_n8 n => .retires (ldReg_ends .b (.imm n) 2 2 s)
  | .rlca => .retires (rotateA_ends .rlc s)
  | .ld_atN16_sp nn => .retires (storedBytes_ld_atN16_sp nn s ▸ ldStoreSP_ends nn s)
  | .add_hl_bc => .retires (addToHL_ends .bc s)
  | .ld_a_atBC => .retires (ldAFrom_ends (s.cpu.pair .bc) 1 2 s)
  | .dec_bc => .retires (stepPair_ends .bc (-1) s)
  | .inc_c => .retires (incByte_ends (.reg .c) 1 s)
  | .dec_c => .retires (decByte_ends (.reg .c) 1 s)
  | .ld_c_n8 n => .retires (ldReg_ends .c (.imm n) 2 2 s)
  | .rrca => .retires (rotateA_ends .rrc s)
  | .stop n => .faults (.inl ⟨_, rfl⟩) _
  | .ld_de_n16 nn => .retires (ldPair_ends .de nn s)
  | .ld_atDE_a => .retires (ldStore_ends (s.cpu.pair .de) s.cpu.a 1 2 s)
  | .inc_de => .retires (stepPair_ends .de 1 s)
  | .inc_d => .retires (incByte_ends (.reg .d) 1 s)
  | .dec_d => .retires (decByte_ends (.reg .d) 1 s)
  | .ld_d_n8 n => .retires (ldReg_ends .d (.imm n) 2 2 s)
  | .rla => .retires (rotateA_ends .rl s)
  | .jr_e8 e => .retires (jumpTo_ends (relTarget e s) 3 s)
  | .add_hl_de => .retires (addToHL_ends .de s)
  | .ld_a_atDE => .retires (ldAFrom_ends (s.cpu.pair .de) 1 2 s)
  | .dec_de => .retires (stepPair_ends .de (-1) s)
  | .inc_e => .retires (incByte_ends (.reg .e) 1 s)
  | .dec_e => .retires (decByte_ends (.reg .e) 1 s)
  | .ld_e_n8 n => .retires (ldReg_ends .e (.imm n) 2 2 s)
  | .rra => .retires (rotateA_ends .rr s)
  | .jr_nz_e8 e => .retires (jumpIf_ends .nz (relTarget e s) 2 2 1 s)
  | .ld_hl_n16 nn => .retires (ldPair_ends .hl nn s)
  | .ld_atHLinc_a => .retires (ldStepHLA_ends 1 s)
  | .inc_hl => .retires (stepPair_ends .hl 1 s)
  | .inc_h => .retires (incByte_ends (.reg .h) 1 s)
  | .dec_h => .retires (decByte_ends (.reg .h) 1 s)
  | .ld_h_n8 n => .retires (ldReg_ends .h (.imm n) 2 2 s)
  | .daa => .retires (adjustA_ends s)
  | .jr_z_e8 e => .retires (jumpIf_ends .z (relTarget e s) 2 2 1 s)
  | .add_hl_hl => .retires (addToHL_ends .hl s)
  | .ld_a_atHLinc => .retires (ldAStepHL_ends 1 s)
  | .dec_hl => .retires (stepPair_ends .hl (-1) s)
  | .inc_l => .retires (incByte_ends (.reg .l) 1 s)
  | .dec_l => .retires (decByte_ends (.reg .l) 1 s)
  | .ld_l_n8 n => .retires (ldReg_ends .l (.imm n) 2 2 s)
  | .cpl => .retires (complementA_ends s)
  | .jr_nc_e8 e => .retires (jumpIf_ends .nc (relTarget e s) 2 2 1 s)
  | .ld_sp_n16 nn => .retires (ldPair_ends .sp nn s)
  | .ld_atHLdec_a => .retires (ldStepHLA_ends (-1) s)
  | .inc_sp => .retires (stepPair_ends .sp 1 s)
  | .inc_atHL => .retires (incByte_ends .atHL 3 s)
  | .dec_atHL => .retires (decByte_ends .atHL 3 s)
  | .ld_atHL_n8 n => .retires (ldStore_ends s.cpu.hl n 2 3 s)
  | .scf => .retires (setCarry_ends s)
  | .jr_c_e8 e => .retires (jumpIf_ends .c (relTarget e s) 2 2 1 s)
  | .add_hl_sp => .retires (addToHL_ends .sp s)
  | .ld_a_atHLdec => .retires (ldAStepHL_ends (-1) s)
  | .dec_sp => .retires (stepPair_ends .sp (-1) s)
  | .inc_a => .retires (incByte_ends (.reg .a) 1 s)
  | .dec_a => .retires (decByte_ends (.reg .a) 1 s)
  | .ld_a_n8 n => .retires (ldReg_ends .a (.imm n) 2 2 s)
  | .ccf => .retires (complementCarry_ends s)
  | .ld_b_b => .retires (ldReg_ends .b (.reg .b) 1 1 s)
  | .ld_b_c => .retires (ldReg_ends .b (.reg .c) 1 1 s)
  | .ld_b_d => .retires (ldReg_ends .b (.reg .d) 1 1 s)
  | .ld_b_e => .retires (ldReg_ends .b (.reg .e) 1 1 s)
  | .ld_b_h => .retires (ldReg_ends .b (.reg .h) 1 1 s)
  | .ld_b_l => .retires (ldReg_ends .b (.reg .l) 1 1 s)
  | .ld_b_atHL => .retires (ldReg_ends .b .atHL 1 2 s)
  | .ld_b_a => .retires (ldReg_ends .b (.reg .a) 1 1 s)
  | .ld_c_b => .retires (ldReg_ends .c (.reg .b) 1 1 s)
  | .ld_c_c => .retires (ldReg_ends .c (.reg .c) 1 1 s)
  | .ld_c_d => .retires (ldReg_ends .c (.reg .d) 1 1 s)
  | .ld_c_e => .retires (ldReg_ends .c (.reg .e) 1 1 s)
  | .ld_c_h => .retires (ldReg_ends .c (.reg .h) 1 1 s)
  | .ld_c_l => .retires (ldReg_ends .c (.reg .l) 1 1 s)
  | .ld_c_atHL => .retires (ldReg_ends .c .atHL 1 2 s)
  | .ld_c_a => .retires (ldReg_ends .c (.reg .a) 1 1 s)
  | .ld_d_b => .retires (ldReg_ends .d (.reg .b) 1 1 s)
  | .ld_d_c => .retires (ldReg_ends .d (.reg .c) 1 1 s)
  | .ld_d_d => .retires (ldReg_ends .d (.reg .d) 1 1 s)
  | .ld_d_e => .retires (ldReg_ends .d (.reg .e) 1 1 s)
  | .ld_d_h => .retires (ldReg_ends .d (.reg .h) 1 1 s)
  | .ld_d_l => .retires (ldReg_ends .d (.reg .l) 1 1 s)
  | .ld_d_atHL => .retires (ldReg_ends .d .atHL 1 2 s)
  | .ld_d_a => .retires (ldReg_ends .d (.reg .a) 1 1 s)
  | .ld_e_b => .retires (ldReg_ends .e (.reg .b) 1 1 s)
  | .ld_e_c => .retires (ldReg_ends .e (.reg .c) 1 1 s)
  | .ld_e_d => .retires (ldReg_ends .e (.reg .d) 1 1 s)
  | .ld_e_e => .retires (ldReg_ends .e (.reg .e) 1 1 s)
  | .ld_e_h => .retires (ldReg_ends .e (.reg .h) 1 1 s)
  | .ld_e_l => .retires (ldReg_ends .e (.reg .l) 1 1 s)
  | .ld_e_atHL => .retires (ldReg_ends .e .atHL 1 2 s)
  | .ld_e_a => .retires (ldReg_ends .e (.reg .a) 1 1 s)
  | .ld_h_b => .retires (ldReg_ends .h (.reg .b) 1 1 s)
  | .ld_h_c => .retires (ldReg_ends .h (.reg .c) 1 1 s)
  | .ld_h_d => .retires (ldReg_ends .h (.reg .d) 1 1 s)
  | .ld_h_e => .retires (ldReg_ends .h (.reg .e) 1 1 s)
  | .ld_h_h => .retires (ldReg_ends .h (.reg .h) 1 1 s)
  | .ld_h_l => .retires (ldReg_ends .h (.reg .l) 1 1 s)
  | .ld_h_atHL => .retires (ldReg_ends .h .atHL 1 2 s)
  | .ld_h_a => .retires (ldReg_ends .h (.reg .a) 1 1 s)
  | .ld_l_b => .retires (ldReg_ends .l (.reg .b) 1 1 s)
  | .ld_l_c => .retires (ldReg_ends .l (.reg .c) 1 1 s)
  | .ld_l_d => .retires (ldReg_ends .l (.reg .d) 1 1 s)
  | .ld_l_e => .retires (ldReg_ends .l (.reg .e) 1 1 s)
  | .ld_l_h => .retires (ldReg_ends .l (.reg .h) 1 1 s)
  | .ld_l_l => .retires (ldReg_ends .l (.reg .l) 1 1 s)
  | .ld_l_atHL => .retires (ldReg_ends .l .atHL 1 2 s)
  | .ld_l_a => .retires (ldReg_ends .l (.reg .a) 1 1 s)
  | .ld_atHL_b => .retires (ldStore_ends s.cpu.hl s.cpu.b 1 2 s)
  | .ld_atHL_c => .retires (ldStore_ends s.cpu.hl s.cpu.c 1 2 s)
  | .ld_atHL_d => .retires (ldStore_ends s.cpu.hl s.cpu.d 1 2 s)
  | .ld_atHL_e => .retires (ldStore_ends s.cpu.hl s.cpu.e 1 2 s)
  | .ld_atHL_h => .retires (ldStore_ends s.cpu.hl s.cpu.h 1 2 s)
  | .ld_atHL_l => .retires (ldStore_ends s.cpu.hl s.cpu.l 1 2 s)
  | .halt => .halts rfl
  | .ld_atHL_a => .retires (ldStore_ends s.cpu.hl s.cpu.a 1 2 s)
  | .ld_a_b => .retires (ldReg_ends .a (.reg .b) 1 1 s)
  | .ld_a_c => .retires (ldReg_ends .a (.reg .c) 1 1 s)
  | .ld_a_d => .retires (ldReg_ends .a (.reg .d) 1 1 s)
  | .ld_a_e => .retires (ldReg_ends .a (.reg .e) 1 1 s)
  | .ld_a_h => .retires (ldReg_ends .a (.reg .h) 1 1 s)
  | .ld_a_l => .retires (ldReg_ends .a (.reg .l) 1 1 s)
  | .ld_a_atHL => .retires (ldReg_ends .a .atHL 1 2 s)
  | .ld_a_a => .retires (ldReg_ends .a (.reg .a) 1 1 s)
  | .add_a_b => .retires (aluA_ends .add (.reg .b) 1 1 s)
  | .add_a_c => .retires (aluA_ends .add (.reg .c) 1 1 s)
  | .add_a_d => .retires (aluA_ends .add (.reg .d) 1 1 s)
  | .add_a_e => .retires (aluA_ends .add (.reg .e) 1 1 s)
  | .add_a_h => .retires (aluA_ends .add (.reg .h) 1 1 s)
  | .add_a_l => .retires (aluA_ends .add (.reg .l) 1 1 s)
  | .add_a_atHL => .retires (aluA_ends .add .atHL 1 2 s)
  | .add_a_a => .retires (aluA_ends .add (.reg .a) 1 1 s)
  | .adc_a_b => .retires (aluA_ends .adc (.reg .b) 1 1 s)
  | .adc_a_c => .retires (aluA_ends .adc (.reg .c) 1 1 s)
  | .adc_a_d => .retires (aluA_ends .adc (.reg .d) 1 1 s)
  | .adc_a_e => .retires (aluA_ends .adc (.reg .e) 1 1 s)
  | .adc_a_h => .retires (aluA_ends .adc (.reg .h) 1 1 s)
  | .adc_a_l => .retires (aluA_ends .adc (.reg .l) 1 1 s)
  | .adc_a_atHL => .retires (aluA_ends .adc .atHL 1 2 s)
  | .adc_a_a => .retires (aluA_ends .adc (.reg .a) 1 1 s)
  | .sub_a_b => .retires (aluA_ends .sub (.reg .b) 1 1 s)
  | .sub_a_c => .retires (aluA_ends .sub (.reg .c) 1 1 s)
  | .sub_a_d => .retires (aluA_ends .sub (.reg .d) 1 1 s)
  | .sub_a_e => .retires (aluA_ends .sub (.reg .e) 1 1 s)
  | .sub_a_h => .retires (aluA_ends .sub (.reg .h) 1 1 s)
  | .sub_a_l => .retires (aluA_ends .sub (.reg .l) 1 1 s)
  | .sub_a_atHL => .retires (aluA_ends .sub .atHL 1 2 s)
  | .sub_a_a => .retires (aluA_ends .sub (.reg .a) 1 1 s)
  | .sbc_a_b => .retires (aluA_ends .sbc (.reg .b) 1 1 s)
  | .sbc_a_c => .retires (aluA_ends .sbc (.reg .c) 1 1 s)
  | .sbc_a_d => .retires (aluA_ends .sbc (.reg .d) 1 1 s)
  | .sbc_a_e => .retires (aluA_ends .sbc (.reg .e) 1 1 s)
  | .sbc_a_h => .retires (aluA_ends .sbc (.reg .h) 1 1 s)
  | .sbc_a_l => .retires (aluA_ends .sbc (.reg .l) 1 1 s)
  | .sbc_a_atHL => .retires (aluA_ends .sbc .atHL 1 2 s)
  | .sbc_a_a => .retires (aluA_ends .sbc (.reg .a) 1 1 s)
  | .and_a_b => .retires (aluA_ends .and (.reg .b) 1 1 s)
  | .and_a_c => .retires (aluA_ends .and (.reg .c) 1 1 s)
  | .and_a_d => .retires (aluA_ends .and (.reg .d) 1 1 s)
  | .and_a_e => .retires (aluA_ends .and (.reg .e) 1 1 s)
  | .and_a_h => .retires (aluA_ends .and (.reg .h) 1 1 s)
  | .and_a_l => .retires (aluA_ends .and (.reg .l) 1 1 s)
  | .and_a_atHL => .retires (aluA_ends .and .atHL 1 2 s)
  | .and_a_a => .retires (aluA_ends .and (.reg .a) 1 1 s)
  | .xor_a_b => .retires (aluA_ends .xor (.reg .b) 1 1 s)
  | .xor_a_c => .retires (aluA_ends .xor (.reg .c) 1 1 s)
  | .xor_a_d => .retires (aluA_ends .xor (.reg .d) 1 1 s)
  | .xor_a_e => .retires (aluA_ends .xor (.reg .e) 1 1 s)
  | .xor_a_h => .retires (aluA_ends .xor (.reg .h) 1 1 s)
  | .xor_a_l => .retires (aluA_ends .xor (.reg .l) 1 1 s)
  | .xor_a_atHL => .retires (aluA_ends .xor .atHL 1 2 s)
  | .xor_a_a => .retires (aluA_ends .xor (.reg .a) 1 1 s)
  | .or_a_b => .retires (aluA_ends .or (.reg .b) 1 1 s)
  | .or_a_c => .retires (aluA_ends .or (.reg .c) 1 1 s)
  | .or_a_d => .retires (aluA_ends .or (.reg .d) 1 1 s)
  | .or_a_e => .retires (aluA_ends .or (.reg .e) 1 1 s)
  | .or_a_h => .retires (aluA_ends .or (.reg .h) 1 1 s)
  | .or_a_l => .retires (aluA_ends .or (.reg .l) 1 1 s)
  | .or_a_atHL => .retires (aluA_ends .or .atHL 1 2 s)
  | .or_a_a => .retires (aluA_ends .or (.reg .a) 1 1 s)
  | .cp_a_b => .retires (aluA_ends .cp (.reg .b) 1 1 s)
  | .cp_a_c => .retires (aluA_ends .cp (.reg .c) 1 1 s)
  | .cp_a_d => .retires (aluA_ends .cp (.reg .d) 1 1 s)
  | .cp_a_e => .retires (aluA_ends .cp (.reg .e) 1 1 s)
  | .cp_a_h => .retires (aluA_ends .cp (.reg .h) 1 1 s)
  | .cp_a_l => .retires (aluA_ends .cp (.reg .l) 1 1 s)
  | .cp_a_atHL => .retires (aluA_ends .cp .atHL 1 2 s)
  | .cp_a_a => .retires (aluA_ends .cp (.reg .a) 1 1 s)
  | .ret_nz => .retires (returnIf_ends .nz 2 3 s)
  | .pop_bc => .retires (popPair_ends .bc s)
  | .jp_nz_n16 nn => .retires (jumpIf_ends .nz nn 3 3 1 s)
  | .jp_n16 nn => .retires (jumpTo_ends nn 4 s)
  | .call_nz_n16 nn => .retires (callIf_ends .nz nn 3 3 s)
  | .push_bc => .retires (pushPair_ends .bc s)
  | .add_a_n8 n => .retires (aluA_ends .add (.imm n) 2 2 s)
  | .rst_00 => .retires (callTo_ends 0x0000 1 4 s)
  | .ret_z => .retires (returnIf_ends .z 2 3 s)
  | .ret => .retires (returnTo_ends 4 s)
  | .jp_z_n16 nn => .retires (jumpIf_ends .z nn 3 3 1 s)
  | .call_z_n16 nn => .retires (callIf_ends .z nn 3 3 s)
  | .call_n16 nn => .retires (callTo_ends nn 3 6 s)
  | .adc_a_n8 n => .retires (aluA_ends .adc (.imm n) 2 2 s)
  | .rst_08 => .retires (callTo_ends 0x0008 1 4 s)
  | .ret_nc => .retires (returnIf_ends .nc 2 3 s)
  | .pop_de => .retires (popPair_ends .de s)
  | .jp_nc_n16 nn => .retires (jumpIf_ends .nc nn 3 3 1 s)
  | .call_nc_n16 nn => .retires (callIf_ends .nc nn 3 3 s)
  | .push_de => .retires (pushPair_ends .de s)
  | .sub_a_n8 n => .retires (aluA_ends .sub (.imm n) 2 2 s)
  | .rst_10 => .retires (callTo_ends 0x0010 1 4 s)
  | .ret_c => .retires (returnIf_ends .c 2 3 s)
  | .reti => .retires (.retire ((Moves.refl.setSP _).setIME _) _ _ (by decide))
  | .jp_c_n16 nn => .retires (jumpIf_ends .c nn 3 3 1 s)
  | .call_c_n16 nn => .retires (callIf_ends .c nn 3 3 s)
  | .sbc_a_n8 n => .retires (aluA_ends .sbc (.imm n) 2 2 s)
  | .rst_18 => .retires (callTo_ends 0x0018 1 4 s)
  | .ldh_atN8_a n => .retires (ldStore_ends (highPage n) s.cpu.a 2 3 s)
  | .pop_hl => .retires (popPair_ends .hl s)
  | .ld_atC_a => .retires (ldStore_ends (highPage s.cpu.c) s.cpu.a 1 2 s)
  | .push_hl => .retires (pushPair_ends .hl s)
  | .and_a_n8 n => .retires (aluA_ends .and (.imm n) 2 2 s)
  | .rst_20 => .retires (callTo_ends 0x0020 1 4 s)
  | .add_sp_e8 e => .retires (addToSP_ends e s)
  | .jp_hl => .retires (jumpTo_ends s.cpu.hl 1 s)
  | .ld_atN16_a nn => .retires (storedBytes_ld_atN16_a nn s ▸ ldStore_ends nn s.cpu.a 3 4 s)
  | .xor_a_n8 n => .retires (aluA_ends .xor (.imm n) 2 2 s)
  | .rst_28 => .retires (callTo_ends 0x0028 1 4 s)
  | .ldh_a_atN8 n => .retires (ldAFrom_ends (highPage n) 2 3 s)
  | .pop_af => .retires (popPair_ends .af s)
  | .ld_a_atC => .retires (ldAFrom_ends (highPage s.cpu.c) 1 2 s)
  | .di => .retires (setMaster_ends false s)
  | .push_af => .retires (pushPair_ends .af s)
  | .or_a_n8 n => .retires (aluA_ends .or (.imm n) 2 2 s)
  | .rst_30 => .retires (callTo_ends 0x0030 1 4 s)
  | .ld_hl_sp_e8 e => .retires (ldHLFromSP_ends e s)
  | .ld_sp_hl => .retires (ldSPHL_ends s)
  | .ld_a_atN16 nn => .retires (ldAFrom_ends nn 3 4 s)
  | .ei => .retires (setMaster_ends true s)
  | .cp_a_n8 n => .retires (aluA_ends .cp (.imm n) 2 2 s)
  | .rst_38 => .retires (callTo_ends 0x0038 1 4 s)
  | .rlc_b => .retires (rotateByte_ends .rlc (.reg .b) 2 s)
  | .rlc_c => .retires (rotateByte_ends .rlc (.reg .c) 2 s)
  | .rlc_d => .retires (rotateByte_ends .rlc (.reg .d) 2 s)
  | .rlc_e => .retires (rotateByte_ends .rlc (.reg .e) 2 s)
  | .rlc_h => .retires (rotateByte_ends .rlc (.reg .h) 2 s)
  | .rlc_l => .retires (rotateByte_ends .rlc (.reg .l) 2 s)
  | .rlc_atHL => .retires (rotateByte_ends .rlc .atHL 4 s)
  | .rlc_a => .retires (rotateByte_ends .rlc (.reg .a) 2 s)
  | .rrc_b => .retires (rotateByte_ends .rrc (.reg .b) 2 s)
  | .rrc_c => .retires (rotateByte_ends .rrc (.reg .c) 2 s)
  | .rrc_d => .retires (rotateByte_ends .rrc (.reg .d) 2 s)
  | .rrc_e => .retires (rotateByte_ends .rrc (.reg .e) 2 s)
  | .rrc_h => .retires (rotateByte_ends .rrc (.reg .h) 2 s)
  | .rrc_l => .retires (rotateByte_ends .rrc (.reg .l) 2 s)
  | .rrc_atHL => .retires (rotateByte_ends .rrc .atHL 4 s)
  | .rrc_a => .retires (rotateByte_ends .rrc (.reg .a) 2 s)
  | .rl_b => .retires (rotateByte_ends .rl (.reg .b) 2 s)
  | .rl_c => .retires (rotateByte_ends .rl (.reg .c) 2 s)
  | .rl_d => .retires (rotateByte_ends .rl (.reg .d) 2 s)
  | .rl_e => .retires (rotateByte_ends .rl (.reg .e) 2 s)
  | .rl_h => .retires (rotateByte_ends .rl (.reg .h) 2 s)
  | .rl_l => .retires (rotateByte_ends .rl (.reg .l) 2 s)
  | .rl_atHL => .retires (rotateByte_ends .rl .atHL 4 s)
  | .rl_a => .retires (rotateByte_ends .rl (.reg .a) 2 s)
  | .rr_b => .retires (rotateByte_ends .rr (.reg .b) 2 s)
  | .rr_c => .retires (rotateByte_ends .rr (.reg .c) 2 s)
  | .rr_d => .retires (rotateByte_ends .rr (.reg .d) 2 s)
  | .rr_e => .retires (rotateByte_ends .rr (.reg .e) 2 s)
  | .rr_h => .retires (rotateByte_ends .rr (.reg .h) 2 s)
  | .rr_l => .retires (rotateByte_ends .rr (.reg .l) 2 s)
  | .rr_atHL => .retires (rotateByte_ends .rr .atHL 4 s)
  | .rr_a => .retires (rotateByte_ends .rr (.reg .a) 2 s)
  | .sla_b => .retires (rotateByte_ends .sla (.reg .b) 2 s)
  | .sla_c => .retires (rotateByte_ends .sla (.reg .c) 2 s)
  | .sla_d => .retires (rotateByte_ends .sla (.reg .d) 2 s)
  | .sla_e => .retires (rotateByte_ends .sla (.reg .e) 2 s)
  | .sla_h => .retires (rotateByte_ends .sla (.reg .h) 2 s)
  | .sla_l => .retires (rotateByte_ends .sla (.reg .l) 2 s)
  | .sla_atHL => .retires (rotateByte_ends .sla .atHL 4 s)
  | .sla_a => .retires (rotateByte_ends .sla (.reg .a) 2 s)
  | .sra_b => .retires (rotateByte_ends .sra (.reg .b) 2 s)
  | .sra_c => .retires (rotateByte_ends .sra (.reg .c) 2 s)
  | .sra_d => .retires (rotateByte_ends .sra (.reg .d) 2 s)
  | .sra_e => .retires (rotateByte_ends .sra (.reg .e) 2 s)
  | .sra_h => .retires (rotateByte_ends .sra (.reg .h) 2 s)
  | .sra_l => .retires (rotateByte_ends .sra (.reg .l) 2 s)
  | .sra_atHL => .retires (rotateByte_ends .sra .atHL 4 s)
  | .sra_a => .retires (rotateByte_ends .sra (.reg .a) 2 s)
  | .swap_b => .retires (rotateByte_ends .swap (.reg .b) 2 s)
  | .swap_c => .retires (rotateByte_ends .swap (.reg .c) 2 s)
  | .swap_d => .retires (rotateByte_ends .swap (.reg .d) 2 s)
  | .swap_e => .retires (rotateByte_ends .swap (.reg .e) 2 s)
  | .swap_h => .retires (rotateByte_ends .swap (.reg .h) 2 s)
  | .swap_l => .retires (rotateByte_ends .swap (.reg .l) 2 s)
  | .swap_atHL => .retires (rotateByte_ends .swap .atHL 4 s)
  | .swap_a => .retires (rotateByte_ends .swap (.reg .a) 2 s)
  | .srl_b => .retires (rotateByte_ends .srl (.reg .b) 2 s)
  | .srl_c => .retires (rotateByte_ends .srl (.reg .c) 2 s)
  | .srl_d => .retires (rotateByte_ends .srl (.reg .d) 2 s)
  | .srl_e => .retires (rotateByte_ends .srl (.reg .e) 2 s)
  | .srl_h => .retires (rotateByte_ends .srl (.reg .h) 2 s)
  | .srl_l => .retires (rotateByte_ends .srl (.reg .l) 2 s)
  | .srl_atHL => .retires (rotateByte_ends .srl .atHL 4 s)
  | .srl_a => .retires (rotateByte_ends .srl (.reg .a) 2 s)
  | .bit_0_b => .retires (bitByte_ends 0 (.reg .b) 2 s)
  | .bit_0_c => .retires (bitByte_ends 0 (.reg .c) 2 s)
  | .bit_0_d => .retires (bitByte_ends 0 (.reg .d) 2 s)
  | .bit_0_e => .retires (bitByte_ends 0 (.reg .e) 2 s)
  | .bit_0_h => .retires (bitByte_ends 0 (.reg .h) 2 s)
  | .bit_0_l => .retires (bitByte_ends 0 (.reg .l) 2 s)
  | .bit_0_atHL => .retires (bitByte_ends 0 .atHL 3 s)
  | .bit_0_a => .retires (bitByte_ends 0 (.reg .a) 2 s)
  | .bit_1_b => .retires (bitByte_ends 1 (.reg .b) 2 s)
  | .bit_1_c => .retires (bitByte_ends 1 (.reg .c) 2 s)
  | .bit_1_d => .retires (bitByte_ends 1 (.reg .d) 2 s)
  | .bit_1_e => .retires (bitByte_ends 1 (.reg .e) 2 s)
  | .bit_1_h => .retires (bitByte_ends 1 (.reg .h) 2 s)
  | .bit_1_l => .retires (bitByte_ends 1 (.reg .l) 2 s)
  | .bit_1_atHL => .retires (bitByte_ends 1 .atHL 3 s)
  | .bit_1_a => .retires (bitByte_ends 1 (.reg .a) 2 s)
  | .bit_2_b => .retires (bitByte_ends 2 (.reg .b) 2 s)
  | .bit_2_c => .retires (bitByte_ends 2 (.reg .c) 2 s)
  | .bit_2_d => .retires (bitByte_ends 2 (.reg .d) 2 s)
  | .bit_2_e => .retires (bitByte_ends 2 (.reg .e) 2 s)
  | .bit_2_h => .retires (bitByte_ends 2 (.reg .h) 2 s)
  | .bit_2_l => .retires (bitByte_ends 2 (.reg .l) 2 s)
  | .bit_2_atHL => .retires (bitByte_ends 2 .atHL 3 s)
  | .bit_2_a => .retires (bitByte_ends 2 (.reg .a) 2 s)
  | .bit_3_b => .retires (bitByte_ends 3 (.reg .b) 2 s)
  | .bit_3_c => .retires (bitByte_ends 3 (.reg .c) 2 s)
  | .bit_3_d => .retires (bitByte_ends 3 (.reg .d) 2 s)
  | .bit_3_e => .retires (bitByte_ends 3 (.reg .e) 2 s)
  | .bit_3_h => .retires (bitByte_ends 3 (.reg .h) 2 s)
  | .bit_3_l => .retires (bitByte_ends 3 (.reg .l) 2 s)
  | .bit_3_atHL => .retires (bitByte_ends 3 .atHL 3 s)
  | .bit_3_a => .retires (bitByte_ends 3 (.reg .a) 2 s)
  | .bit_4_b => .retires (bitByte_ends 4 (.reg .b) 2 s)
  | .bit_4_c => .retires (bitByte_ends 4 (.reg .c) 2 s)
  | .bit_4_d => .retires (bitByte_ends 4 (.reg .d) 2 s)
  | .bit_4_e => .retires (bitByte_ends 4 (.reg .e) 2 s)
  | .bit_4_h => .retires (bitByte_ends 4 (.reg .h) 2 s)
  | .bit_4_l => .retires (bitByte_ends 4 (.reg .l) 2 s)
  | .bit_4_atHL => .retires (bitByte_ends 4 .atHL 3 s)
  | .bit_4_a => .retires (bitByte_ends 4 (.reg .a) 2 s)
  | .bit_5_b => .retires (bitByte_ends 5 (.reg .b) 2 s)
  | .bit_5_c => .retires (bitByte_ends 5 (.reg .c) 2 s)
  | .bit_5_d => .retires (bitByte_ends 5 (.reg .d) 2 s)
  | .bit_5_e => .retires (bitByte_ends 5 (.reg .e) 2 s)
  | .bit_5_h => .retires (bitByte_ends 5 (.reg .h) 2 s)
  | .bit_5_l => .retires (bitByte_ends 5 (.reg .l) 2 s)
  | .bit_5_atHL => .retires (bitByte_ends 5 .atHL 3 s)
  | .bit_5_a => .retires (bitByte_ends 5 (.reg .a) 2 s)
  | .bit_6_b => .retires (bitByte_ends 6 (.reg .b) 2 s)
  | .bit_6_c => .retires (bitByte_ends 6 (.reg .c) 2 s)
  | .bit_6_d => .retires (bitByte_ends 6 (.reg .d) 2 s)
  | .bit_6_e => .retires (bitByte_ends 6 (.reg .e) 2 s)
  | .bit_6_h => .retires (bitByte_ends 6 (.reg .h) 2 s)
  | .bit_6_l => .retires (bitByte_ends 6 (.reg .l) 2 s)
  | .bit_6_atHL => .retires (bitByte_ends 6 .atHL 3 s)
  | .bit_6_a => .retires (bitByte_ends 6 (.reg .a) 2 s)
  | .bit_7_b => .retires (bitByte_ends 7 (.reg .b) 2 s)
  | .bit_7_c => .retires (bitByte_ends 7 (.reg .c) 2 s)
  | .bit_7_d => .retires (bitByte_ends 7 (.reg .d) 2 s)
  | .bit_7_e => .retires (bitByte_ends 7 (.reg .e) 2 s)
  | .bit_7_h => .retires (bitByte_ends 7 (.reg .h) 2 s)
  | .bit_7_l => .retires (bitByte_ends 7 (.reg .l) 2 s)
  | .bit_7_atHL => .retires (bitByte_ends 7 .atHL 3 s)
  | .bit_7_a => .retires (bitByte_ends 7 (.reg .a) 2 s)
  | .res_0_b => .retires (resByte_ends 0 (.reg .b) 2 s)
  | .res_0_c => .retires (resByte_ends 0 (.reg .c) 2 s)
  | .res_0_d => .retires (resByte_ends 0 (.reg .d) 2 s)
  | .res_0_e => .retires (resByte_ends 0 (.reg .e) 2 s)
  | .res_0_h => .retires (resByte_ends 0 (.reg .h) 2 s)
  | .res_0_l => .retires (resByte_ends 0 (.reg .l) 2 s)
  | .res_0_atHL => .retires (resByte_ends 0 .atHL 4 s)
  | .res_0_a => .retires (resByte_ends 0 (.reg .a) 2 s)
  | .res_1_b => .retires (resByte_ends 1 (.reg .b) 2 s)
  | .res_1_c => .retires (resByte_ends 1 (.reg .c) 2 s)
  | .res_1_d => .retires (resByte_ends 1 (.reg .d) 2 s)
  | .res_1_e => .retires (resByte_ends 1 (.reg .e) 2 s)
  | .res_1_h => .retires (resByte_ends 1 (.reg .h) 2 s)
  | .res_1_l => .retires (resByte_ends 1 (.reg .l) 2 s)
  | .res_1_atHL => .retires (resByte_ends 1 .atHL 4 s)
  | .res_1_a => .retires (resByte_ends 1 (.reg .a) 2 s)
  | .res_2_b => .retires (resByte_ends 2 (.reg .b) 2 s)
  | .res_2_c => .retires (resByte_ends 2 (.reg .c) 2 s)
  | .res_2_d => .retires (resByte_ends 2 (.reg .d) 2 s)
  | .res_2_e => .retires (resByte_ends 2 (.reg .e) 2 s)
  | .res_2_h => .retires (resByte_ends 2 (.reg .h) 2 s)
  | .res_2_l => .retires (resByte_ends 2 (.reg .l) 2 s)
  | .res_2_atHL => .retires (resByte_ends 2 .atHL 4 s)
  | .res_2_a => .retires (resByte_ends 2 (.reg .a) 2 s)
  | .res_3_b => .retires (resByte_ends 3 (.reg .b) 2 s)
  | .res_3_c => .retires (resByte_ends 3 (.reg .c) 2 s)
  | .res_3_d => .retires (resByte_ends 3 (.reg .d) 2 s)
  | .res_3_e => .retires (resByte_ends 3 (.reg .e) 2 s)
  | .res_3_h => .retires (resByte_ends 3 (.reg .h) 2 s)
  | .res_3_l => .retires (resByte_ends 3 (.reg .l) 2 s)
  | .res_3_atHL => .retires (resByte_ends 3 .atHL 4 s)
  | .res_3_a => .retires (resByte_ends 3 (.reg .a) 2 s)
  | .res_4_b => .retires (resByte_ends 4 (.reg .b) 2 s)
  | .res_4_c => .retires (resByte_ends 4 (.reg .c) 2 s)
  | .res_4_d => .retires (resByte_ends 4 (.reg .d) 2 s)
  | .res_4_e => .retires (resByte_ends 4 (.reg .e) 2 s)
  | .res_4_h => .retires (resByte_ends 4 (.reg .h) 2 s)
  | .res_4_l => .retires (resByte_ends 4 (.reg .l) 2 s)
  | .res_4_atHL => .retires (resByte_ends 4 .atHL 4 s)
  | .res_4_a => .retires (resByte_ends 4 (.reg .a) 2 s)
  | .res_5_b => .retires (resByte_ends 5 (.reg .b) 2 s)
  | .res_5_c => .retires (resByte_ends 5 (.reg .c) 2 s)
  | .res_5_d => .retires (resByte_ends 5 (.reg .d) 2 s)
  | .res_5_e => .retires (resByte_ends 5 (.reg .e) 2 s)
  | .res_5_h => .retires (resByte_ends 5 (.reg .h) 2 s)
  | .res_5_l => .retires (resByte_ends 5 (.reg .l) 2 s)
  | .res_5_atHL => .retires (resByte_ends 5 .atHL 4 s)
  | .res_5_a => .retires (resByte_ends 5 (.reg .a) 2 s)
  | .res_6_b => .retires (resByte_ends 6 (.reg .b) 2 s)
  | .res_6_c => .retires (resByte_ends 6 (.reg .c) 2 s)
  | .res_6_d => .retires (resByte_ends 6 (.reg .d) 2 s)
  | .res_6_e => .retires (resByte_ends 6 (.reg .e) 2 s)
  | .res_6_h => .retires (resByte_ends 6 (.reg .h) 2 s)
  | .res_6_l => .retires (resByte_ends 6 (.reg .l) 2 s)
  | .res_6_atHL => .retires (resByte_ends 6 .atHL 4 s)
  | .res_6_a => .retires (resByte_ends 6 (.reg .a) 2 s)
  | .res_7_b => .retires (resByte_ends 7 (.reg .b) 2 s)
  | .res_7_c => .retires (resByte_ends 7 (.reg .c) 2 s)
  | .res_7_d => .retires (resByte_ends 7 (.reg .d) 2 s)
  | .res_7_e => .retires (resByte_ends 7 (.reg .e) 2 s)
  | .res_7_h => .retires (resByte_ends 7 (.reg .h) 2 s)
  | .res_7_l => .retires (resByte_ends 7 (.reg .l) 2 s)
  | .res_7_atHL => .retires (resByte_ends 7 .atHL 4 s)
  | .res_7_a => .retires (resByte_ends 7 (.reg .a) 2 s)
  | .set_0_b => .retires (setByte_ends 0 (.reg .b) 2 s)
  | .set_0_c => .retires (setByte_ends 0 (.reg .c) 2 s)
  | .set_0_d => .retires (setByte_ends 0 (.reg .d) 2 s)
  | .set_0_e => .retires (setByte_ends 0 (.reg .e) 2 s)
  | .set_0_h => .retires (setByte_ends 0 (.reg .h) 2 s)
  | .set_0_l => .retires (setByte_ends 0 (.reg .l) 2 s)
  | .set_0_atHL => .retires (setByte_ends 0 .atHL 4 s)
  | .set_0_a => .retires (setByte_ends 0 (.reg .a) 2 s)
  | .set_1_b => .retires (setByte_ends 1 (.reg .b) 2 s)
  | .set_1_c => .retires (setByte_ends 1 (.reg .c) 2 s)
  | .set_1_d => .retires (setByte_ends 1 (.reg .d) 2 s)
  | .set_1_e => .retires (setByte_ends 1 (.reg .e) 2 s)
  | .set_1_h => .retires (setByte_ends 1 (.reg .h) 2 s)
  | .set_1_l => .retires (setByte_ends 1 (.reg .l) 2 s)
  | .set_1_atHL => .retires (setByte_ends 1 .atHL 4 s)
  | .set_1_a => .retires (setByte_ends 1 (.reg .a) 2 s)
  | .set_2_b => .retires (setByte_ends 2 (.reg .b) 2 s)
  | .set_2_c => .retires (setByte_ends 2 (.reg .c) 2 s)
  | .set_2_d => .retires (setByte_ends 2 (.reg .d) 2 s)
  | .set_2_e => .retires (setByte_ends 2 (.reg .e) 2 s)
  | .set_2_h => .retires (setByte_ends 2 (.reg .h) 2 s)
  | .set_2_l => .retires (setByte_ends 2 (.reg .l) 2 s)
  | .set_2_atHL => .retires (setByte_ends 2 .atHL 4 s)
  | .set_2_a => .retires (setByte_ends 2 (.reg .a) 2 s)
  | .set_3_b => .retires (setByte_ends 3 (.reg .b) 2 s)
  | .set_3_c => .retires (setByte_ends 3 (.reg .c) 2 s)
  | .set_3_d => .retires (setByte_ends 3 (.reg .d) 2 s)
  | .set_3_e => .retires (setByte_ends 3 (.reg .e) 2 s)
  | .set_3_h => .retires (setByte_ends 3 (.reg .h) 2 s)
  | .set_3_l => .retires (setByte_ends 3 (.reg .l) 2 s)
  | .set_3_atHL => .retires (setByte_ends 3 .atHL 4 s)
  | .set_3_a => .retires (setByte_ends 3 (.reg .a) 2 s)
  | .set_4_b => .retires (setByte_ends 4 (.reg .b) 2 s)
  | .set_4_c => .retires (setByte_ends 4 (.reg .c) 2 s)
  | .set_4_d => .retires (setByte_ends 4 (.reg .d) 2 s)
  | .set_4_e => .retires (setByte_ends 4 (.reg .e) 2 s)
  | .set_4_h => .retires (setByte_ends 4 (.reg .h) 2 s)
  | .set_4_l => .retires (setByte_ends 4 (.reg .l) 2 s)
  | .set_4_atHL => .retires (setByte_ends 4 .atHL 4 s)
  | .set_4_a => .retires (setByte_ends 4 (.reg .a) 2 s)
  | .set_5_b => .retires (setByte_ends 5 (.reg .b) 2 s)
  | .set_5_c => .retires (setByte_ends 5 (.reg .c) 2 s)
  | .set_5_d => .retires (setByte_ends 5 (.reg .d) 2 s)
  | .set_5_e => .retires (setByte_ends 5 (.reg .e) 2 s)
  | .set_5_h => .retires (setByte_ends 5 (.reg .h) 2 s)
  | .set_5_l => .retires (setByte_ends 5 (.reg .l) 2 s)
  | .set_5_atHL => .retires (setByte_ends 5 .atHL 4 s)
  | .set_5_a => .retires (setByte_ends 5 (.reg .a) 2 s)
  | .set_6_b => .retires (setByte_ends 6 (.reg .b) 2 s)
  | .set_6_c => .retires (setByte_ends 6 (.reg .c) 2 s)
  | .set_6_d => .retires (setByte_ends 6 (.reg .d) 2 s)
  | .set_6_e => .retires (setByte_ends 6 (.reg .e) 2 s)
  | .set_6_h => .retires (setByte_ends 6 (.reg .h) 2 s)
  | .set_6_l => .retires (setByte_ends 6 (.reg .l) 2 s)
  | .set_6_atHL => .retires (setByte_ends 6 .atHL 4 s)
  | .set_6_a => .retires (setByte_ends 6 (.reg .a) 2 s)
  | .set_7_b => .retires (setByte_ends 7 (.reg .b) 2 s)
  | .set_7_c => .retires (setByte_ends 7 (.reg .c) 2 s)
  | .set_7_d => .retires (setByte_ends 7 (.reg .d) 2 s)
  | .set_7_e => .retires (setByte_ends 7 (.reg .e) 2 s)
  | .set_7_h => .retires (setByte_ends 7 (.reg .h) 2 s)
  | .set_7_l => .retires (setByte_ends 7 (.reg .l) 2 s)
  | .set_7_atHL => .retires (setByte_ends 7 .atHL 4 s)
  | .set_7_a => .retires (setByte_ends 7 (.reg .a) 2 s)
  | .illegal_d3 => .faults (.inr (by decide)) _
  | .illegal_db => .faults (.inr (by decide)) _
  | .illegal_dd => .faults (.inr (by decide)) _
  | .illegal_e3 => .faults (.inr (by decide)) _
  | .illegal_e4 => .faults (.inr (by decide)) _
  | .illegal_eb => .faults (.inr (by decide)) _
  | .illegal_ec => .faults (.inr (by decide)) _
  | .illegal_ed => .faults (.inr (by decide)) _
  | .illegal_f4 => .faults (.inr (by decide)) _
  | .illegal_fc => .faults (.inr (by decide)) _
  | .illegal_fd => .faults (.inr (by decide)) _

/-- What an instruction that answers a next state did: the inversion every claim about `exec` starts
from. -/
theorem exec_next_cases {i : Instr} {s t : State} (h : exec i s = .next t) :
    (∃ u npc n, Moves s (storedBytes i s) u ∧ 1 ≤ n ∧ n ≤ 6 ∧ t = u.retire npc n) ∨
    (i = .halt ∧ t = { s with cpu := { s.cpu with pc := s.nextPC 1, wake := none } }) ∨
    (((∃ n, i = .stop n) ∨ i ∈ illegalRows.map Prod.snd) ∧ ∃ r, t = s.raiseFatal r) := by
  have he := exec_ends i s
  rw [h] at he
  generalize hr : (Host.Outcome.next t : Result State) = r at he
  cases he with
  | retires hret =>
    cases hret with
    | retire hm npc n hn => cases hr; exact .inl ⟨_, npc, n, hm, hn.1, hn.2, rfl⟩
  | halts hi => cases hr; exact .inr (.inl ⟨hi, rfl⟩)
  | faults hi r => cases hr; exact .inr (.inr ⟨hi, r, rfl⟩)
/-! ### The CPU's turn and the step -/

/-- What the CPU does in its turn of a tick, from the state after the wake-up. -/
inductive CpuTurn (s : State) : State → Prop where
  | idle (h : s.cpu.wake ≠ some s.cycle) : CpuTurn s s
  | serviced (i : IntSource) (hw : s.cpu.wake = some s.cycle) (hi : s.serviceable = some i) :
      CpuTurn s (service i s)
  | executed (t : State) (hw : s.cpu.wake = some s.cycle) (hi : s.serviceable = none)
      (he : exec (fetchInstr s) s = .next t) : CpuTurn s t

theorem cpuStep_turn {s t : State} (h : cpuStep s = .next t) : CpuTurn (wakeUp s) t := by
  have hc : (wakeUp s).cycle = s.cycle := by unfold wakeUp; split <;> rfl
  unfold cpuStep serviceOrExecute at h
  split at h
  · next hw =>
    split at h
    · next i hi =>
      cases h
      exact .serviced i (hw.trans (congrArg some hc.symm)) hi
    · next hi => exact .executed t (hw.trans (congrArg some hc.symm)) hi h
  · next hw =>
    cases h
    exact .idle (fun hw' => hw (hw'.trans (congrArg some hc)))

/-- What a step can do: the devices' part of the tick, the wake-up, the CPU's turn, and T rises. -/
theorem step_cases {s t : State} (h : step s = .next t) :
    s.fault = none ∧ ∃ u, CpuTurn (wakeUp (deviceSteps s)) u ∧ t = u.advanceCycle := by
  unfold step tick at h
  split at h
  · cases h
  · next hf =>
    refine ⟨hf, ?_⟩
    cases hc : cpuStep (deviceSteps s) with
    | next u =>
      rw [hc] at h
      cases h
      exact ⟨u, cpuStep_turn hc, rfl⟩
    | fault r => rw [hc] at h; cases h
    | refused r => rw [hc] at h; cases h

/-- A service pushes PC and enters the vector, with IME and the source's request cleared. -/
theorem service_moves (i : IntSource) (s : State) :
    ∃ t, Moves { s with cpu := { s.cpu with ime := false, iflag := s.cpu.iflag &&& ~~~i.mask } }
      (pushSlot s) t ∧ service i s = t.retire i.vector Config.serviceCycles :=
  ⟨_, push16_moves _ _, rfl⟩

end Sys2Proof.Machine
end

