-- ==== Sys2Proof/Laws/PerInstr.lean ====
section
/-! SUPPORT. Statements about each instruction as syntax. `EncodingLength`: the encoding of an
instruction is one instruction, of the length its first byte fixes (30_encoding.md R120). -/

namespace Sys2Proof.Laws

/-- The instruction's encoding is exactly one instruction. -/
def EncodingLength.Statement (i : Instr) : Prop := wellFormedBytes (encode i) = true

theorem EncodingLength.nop : EncodingLength.Statement .nop := rfl
theorem EncodingLength.ld_bc_n16 (nn : Word) : EncodingLength.Statement (.ld_bc_n16 nn) := rfl
theorem EncodingLength.ld_atBC_a : EncodingLength.Statement .ld_atBC_a := rfl
theorem EncodingLength.inc_bc : EncodingLength.Statement .inc_bc := rfl
theorem EncodingLength.inc_b : EncodingLength.Statement .inc_b := rfl
theorem EncodingLength.dec_b : EncodingLength.Statement .dec_b := rfl
theorem EncodingLength.ld_b_n8 (n : Byte) : EncodingLength.Statement (.ld_b_n8 n) := rfl
theorem EncodingLength.rlca : EncodingLength.Statement .rlca := rfl
theorem EncodingLength.ld_atN16_sp (nn : Word) : EncodingLength.Statement (.ld_atN16_sp nn) := rfl
theorem EncodingLength.add_hl_bc : EncodingLength.Statement .add_hl_bc := rfl
theorem EncodingLength.ld_a_atBC : EncodingLength.Statement .ld_a_atBC := rfl
theorem EncodingLength.dec_bc : EncodingLength.Statement .dec_bc := rfl
theorem EncodingLength.inc_c : EncodingLength.Statement .inc_c := rfl
theorem EncodingLength.dec_c : EncodingLength.Statement .dec_c := rfl
theorem EncodingLength.ld_c_n8 (n : Byte) : EncodingLength.Statement (.ld_c_n8 n) := rfl
theorem EncodingLength.rrca : EncodingLength.Statement .rrca := rfl
theorem EncodingLength.stop (n : Byte) : EncodingLength.Statement (.stop n) := rfl
theorem EncodingLength.ld_de_n16 (nn : Word) : EncodingLength.Statement (.ld_de_n16 nn) := rfl
theorem EncodingLength.ld_atDE_a : EncodingLength.Statement .ld_atDE_a := rfl
theorem EncodingLength.inc_de : EncodingLength.Statement .inc_de := rfl
theorem EncodingLength.inc_d : EncodingLength.Statement .inc_d := rfl
theorem EncodingLength.dec_d : EncodingLength.Statement .dec_d := rfl
theorem EncodingLength.ld_d_n8 (n : Byte) : EncodingLength.Statement (.ld_d_n8 n) := rfl
theorem EncodingLength.rla : EncodingLength.Statement .rla := rfl
theorem EncodingLength.jr_e8 (e : Byte) : EncodingLength.Statement (.jr_e8 e) := rfl
theorem EncodingLength.add_hl_de : EncodingLength.Statement .add_hl_de := rfl
theorem EncodingLength.ld_a_atDE : EncodingLength.Statement .ld_a_atDE := rfl
theorem EncodingLength.dec_de : EncodingLength.Statement .dec_de := rfl
theorem EncodingLength.inc_e : EncodingLength.Statement .inc_e := rfl
theorem EncodingLength.dec_e : EncodingLength.Statement .dec_e := rfl
theorem EncodingLength.ld_e_n8 (n : Byte) : EncodingLength.Statement (.ld_e_n8 n) := rfl
theorem EncodingLength.rra : EncodingLength.Statement .rra := rfl
theorem EncodingLength.jr_nz_e8 (e : Byte) : EncodingLength.Statement (.jr_nz_e8 e) := rfl
theorem EncodingLength.ld_hl_n16 (nn : Word) : EncodingLength.Statement (.ld_hl_n16 nn) := rfl
theorem EncodingLength.ld_atHLinc_a : EncodingLength.Statement .ld_atHLinc_a := rfl
theorem EncodingLength.inc_hl : EncodingLength.Statement .inc_hl := rfl
theorem EncodingLength.inc_h : EncodingLength.Statement .inc_h := rfl
theorem EncodingLength.dec_h : EncodingLength.Statement .dec_h := rfl
theorem EncodingLength.ld_h_n8 (n : Byte) : EncodingLength.Statement (.ld_h_n8 n) := rfl
theorem EncodingLength.daa : EncodingLength.Statement .daa := rfl
theorem EncodingLength.jr_z_e8 (e : Byte) : EncodingLength.Statement (.jr_z_e8 e) := rfl
theorem EncodingLength.add_hl_hl : EncodingLength.Statement .add_hl_hl := rfl
theorem EncodingLength.ld_a_atHLinc : EncodingLength.Statement .ld_a_atHLinc := rfl
theorem EncodingLength.dec_hl : EncodingLength.Statement .dec_hl := rfl
theorem EncodingLength.inc_l : EncodingLength.Statement .inc_l := rfl
theorem EncodingLength.dec_l : EncodingLength.Statement .dec_l := rfl
theorem EncodingLength.ld_l_n8 (n : Byte) : EncodingLength.Statement (.ld_l_n8 n) := rfl
theorem EncodingLength.cpl : EncodingLength.Statement .cpl := rfl
theorem EncodingLength.jr_nc_e8 (e : Byte) : EncodingLength.Statement (.jr_nc_e8 e) := rfl
theorem EncodingLength.ld_sp_n16 (nn : Word) : EncodingLength.Statement (.ld_sp_n16 nn) := rfl
theorem EncodingLength.ld_atHLdec_a : EncodingLength.Statement .ld_atHLdec_a := rfl
theorem EncodingLength.inc_sp : EncodingLength.Statement .inc_sp := rfl
theorem EncodingLength.inc_atHL : EncodingLength.Statement .inc_atHL := rfl
theorem EncodingLength.dec_atHL : EncodingLength.Statement .dec_atHL := rfl
theorem EncodingLength.ld_atHL_n8 (n : Byte) : EncodingLength.Statement (.ld_atHL_n8 n) := rfl
theorem EncodingLength.scf : EncodingLength.Statement .scf := rfl
theorem EncodingLength.jr_c_e8 (e : Byte) : EncodingLength.Statement (.jr_c_e8 e) := rfl
theorem EncodingLength.add_hl_sp : EncodingLength.Statement .add_hl_sp := rfl
theorem EncodingLength.ld_a_atHLdec : EncodingLength.Statement .ld_a_atHLdec := rfl
theorem EncodingLength.dec_sp : EncodingLength.Statement .dec_sp := rfl
theorem EncodingLength.inc_a : EncodingLength.Statement .inc_a := rfl
theorem EncodingLength.dec_a : EncodingLength.Statement .dec_a := rfl
theorem EncodingLength.ld_a_n8 (n : Byte) : EncodingLength.Statement (.ld_a_n8 n) := rfl
theorem EncodingLength.ccf : EncodingLength.Statement .ccf := rfl
theorem EncodingLength.ld_b_b : EncodingLength.Statement .ld_b_b := rfl
theorem EncodingLength.ld_b_c : EncodingLength.Statement .ld_b_c := rfl
theorem EncodingLength.ld_b_d : EncodingLength.Statement .ld_b_d := rfl
theorem EncodingLength.ld_b_e : EncodingLength.Statement .ld_b_e := rfl
theorem EncodingLength.ld_b_h : EncodingLength.Statement .ld_b_h := rfl
theorem EncodingLength.ld_b_l : EncodingLength.Statement .ld_b_l := rfl
theorem EncodingLength.ld_b_atHL : EncodingLength.Statement .ld_b_atHL := rfl
theorem EncodingLength.ld_b_a : EncodingLength.Statement .ld_b_a := rfl
theorem EncodingLength.ld_c_b : EncodingLength.Statement .ld_c_b := rfl
theorem EncodingLength.ld_c_c : EncodingLength.Statement .ld_c_c := rfl
theorem EncodingLength.ld_c_d : EncodingLength.Statement .ld_c_d := rfl
theorem EncodingLength.ld_c_e : EncodingLength.Statement .ld_c_e := rfl
theorem EncodingLength.ld_c_h : EncodingLength.Statement .ld_c_h := rfl
theorem EncodingLength.ld_c_l : EncodingLength.Statement .ld_c_l := rfl
theorem EncodingLength.ld_c_atHL : EncodingLength.Statement .ld_c_atHL := rfl
theorem EncodingLength.ld_c_a : EncodingLength.Statement .ld_c_a := rfl
theorem EncodingLength.ld_d_b : EncodingLength.Statement .ld_d_b := rfl
theorem EncodingLength.ld_d_c : EncodingLength.Statement .ld_d_c := rfl
theorem EncodingLength.ld_d_d : EncodingLength.Statement .ld_d_d := rfl
theorem EncodingLength.ld_d_e : EncodingLength.Statement .ld_d_e := rfl
theorem EncodingLength.ld_d_h : EncodingLength.Statement .ld_d_h := rfl
theorem EncodingLength.ld_d_l : EncodingLength.Statement .ld_d_l := rfl
theorem EncodingLength.ld_d_atHL : EncodingLength.Statement .ld_d_atHL := rfl
theorem EncodingLength.ld_d_a : EncodingLength.Statement .ld_d_a := rfl
theorem EncodingLength.ld_e_b : EncodingLength.Statement .ld_e_b := rfl
theorem EncodingLength.ld_e_c : EncodingLength.Statement .ld_e_c := rfl
theorem EncodingLength.ld_e_d : EncodingLength.Statement .ld_e_d := rfl
theorem EncodingLength.ld_e_e : EncodingLength.Statement .ld_e_e := rfl
theorem EncodingLength.ld_e_h : EncodingLength.Statement .ld_e_h := rfl
theorem EncodingLength.ld_e_l : EncodingLength.Statement .ld_e_l := rfl
theorem EncodingLength.ld_e_atHL : EncodingLength.Statement .ld_e_atHL := rfl
theorem EncodingLength.ld_e_a : EncodingLength.Statement .ld_e_a := rfl
theorem EncodingLength.ld_h_b : EncodingLength.Statement .ld_h_b := rfl
theorem EncodingLength.ld_h_c : EncodingLength.Statement .ld_h_c := rfl
theorem EncodingLength.ld_h_d : EncodingLength.Statement .ld_h_d := rfl
theorem EncodingLength.ld_h_e : EncodingLength.Statement .ld_h_e := rfl
theorem EncodingLength.ld_h_h : EncodingLength.Statement .ld_h_h := rfl
theorem EncodingLength.ld_h_l : EncodingLength.Statement .ld_h_l := rfl
theorem EncodingLength.ld_h_atHL : EncodingLength.Statement .ld_h_atHL := rfl
theorem EncodingLength.ld_h_a : EncodingLength.Statement .ld_h_a := rfl
theorem EncodingLength.ld_l_b : EncodingLength.Statement .ld_l_b := rfl
theorem EncodingLength.ld_l_c : EncodingLength.Statement .ld_l_c := rfl
theorem EncodingLength.ld_l_d : EncodingLength.Statement .ld_l_d := rfl
theorem EncodingLength.ld_l_e : EncodingLength.Statement .ld_l_e := rfl
theorem EncodingLength.ld_l_h : EncodingLength.Statement .ld_l_h := rfl
theorem EncodingLength.ld_l_l : EncodingLength.Statement .ld_l_l := rfl
theorem EncodingLength.ld_l_atHL : EncodingLength.Statement .ld_l_atHL := rfl
theorem EncodingLength.ld_l_a : EncodingLength.Statement .ld_l_a := rfl
theorem EncodingLength.ld_atHL_b : EncodingLength.Statement .ld_atHL_b := rfl
theorem EncodingLength.ld_atHL_c : EncodingLength.Statement .ld_atHL_c := rfl
theorem EncodingLength.ld_atHL_d : EncodingLength.Statement .ld_atHL_d := rfl
theorem EncodingLength.ld_atHL_e : EncodingLength.Statement .ld_atHL_e := rfl
theorem EncodingLength.ld_atHL_h : EncodingLength.Statement .ld_atHL_h := rfl
theorem EncodingLength.ld_atHL_l : EncodingLength.Statement .ld_atHL_l := rfl
theorem EncodingLength.halt : EncodingLength.Statement .halt := rfl
theorem EncodingLength.ld_atHL_a : EncodingLength.Statement .ld_atHL_a := rfl
theorem EncodingLength.ld_a_b : EncodingLength.Statement .ld_a_b := rfl
theorem EncodingLength.ld_a_c : EncodingLength.Statement .ld_a_c := rfl
theorem EncodingLength.ld_a_d : EncodingLength.Statement .ld_a_d := rfl
theorem EncodingLength.ld_a_e : EncodingLength.Statement .ld_a_e := rfl
theorem EncodingLength.ld_a_h : EncodingLength.Statement .ld_a_h := rfl
theorem EncodingLength.ld_a_l : EncodingLength.Statement .ld_a_l := rfl
theorem EncodingLength.ld_a_atHL : EncodingLength.Statement .ld_a_atHL := rfl
theorem EncodingLength.ld_a_a : EncodingLength.Statement .ld_a_a := rfl
theorem EncodingLength.add_a_b : EncodingLength.Statement .add_a_b := rfl
theorem EncodingLength.add_a_c : EncodingLength.Statement .add_a_c := rfl
theorem EncodingLength.add_a_d : EncodingLength.Statement .add_a_d := rfl
theorem EncodingLength.add_a_e : EncodingLength.Statement .add_a_e := rfl
theorem EncodingLength.add_a_h : EncodingLength.Statement .add_a_h := rfl
theorem EncodingLength.add_a_l : EncodingLength.Statement .add_a_l := rfl
theorem EncodingLength.add_a_atHL : EncodingLength.Statement .add_a_atHL := rfl
theorem EncodingLength.add_a_a : EncodingLength.Statement .add_a_a := rfl
theorem EncodingLength.adc_a_b : EncodingLength.Statement .adc_a_b := rfl
theorem EncodingLength.adc_a_c : EncodingLength.Statement .adc_a_c := rfl
theorem EncodingLength.adc_a_d : EncodingLength.Statement .adc_a_d := rfl
theorem EncodingLength.adc_a_e : EncodingLength.Statement .adc_a_e := rfl
theorem EncodingLength.adc_a_h : EncodingLength.Statement .adc_a_h := rfl
theorem EncodingLength.adc_a_l : EncodingLength.Statement .adc_a_l := rfl
theorem EncodingLength.adc_a_atHL : EncodingLength.Statement .adc_a_atHL := rfl
theorem EncodingLength.adc_a_a : EncodingLength.Statement .adc_a_a := rfl
theorem EncodingLength.sub_a_b : EncodingLength.Statement .sub_a_b := rfl
theorem EncodingLength.sub_a_c : EncodingLength.Statement .sub_a_c := rfl
theorem EncodingLength.sub_a_d : EncodingLength.Statement .sub_a_d := rfl
theorem EncodingLength.sub_a_e : EncodingLength.Statement .sub_a_e := rfl
theorem EncodingLength.sub_a_h : EncodingLength.Statement .sub_a_h := rfl
theorem EncodingLength.sub_a_l : EncodingLength.Statement .sub_a_l := rfl
theorem EncodingLength.sub_a_atHL : EncodingLength.Statement .sub_a_atHL := rfl
theorem EncodingLength.sub_a_a : EncodingLength.Statement .sub_a_a := rfl
theorem EncodingLength.sbc_a_b : EncodingLength.Statement .sbc_a_b := rfl
theorem EncodingLength.sbc_a_c : EncodingLength.Statement .sbc_a_c := rfl
theorem EncodingLength.sbc_a_d : EncodingLength.Statement .sbc_a_d := rfl
theorem EncodingLength.sbc_a_e : EncodingLength.Statement .sbc_a_e := rfl
theorem EncodingLength.sbc_a_h : EncodingLength.Statement .sbc_a_h := rfl
theorem EncodingLength.sbc_a_l : EncodingLength.Statement .sbc_a_l := rfl
theorem EncodingLength.sbc_a_atHL : EncodingLength.Statement .sbc_a_atHL := rfl
theorem EncodingLength.sbc_a_a : EncodingLength.Statement .sbc_a_a := rfl
theorem EncodingLength.and_a_b : EncodingLength.Statement .and_a_b := rfl
theorem EncodingLength.and_a_c : EncodingLength.Statement .and_a_c := rfl
theorem EncodingLength.and_a_d : EncodingLength.Statement .and_a_d := rfl
theorem EncodingLength.and_a_e : EncodingLength.Statement .and_a_e := rfl
theorem EncodingLength.and_a_h : EncodingLength.Statement .and_a_h := rfl
theorem EncodingLength.and_a_l : EncodingLength.Statement .and_a_l := rfl
theorem EncodingLength.and_a_atHL : EncodingLength.Statement .and_a_atHL := rfl
theorem EncodingLength.and_a_a : EncodingLength.Statement .and_a_a := rfl
theorem EncodingLength.xor_a_b : EncodingLength.Statement .xor_a_b := rfl
theorem EncodingLength.xor_a_c : EncodingLength.Statement .xor_a_c := rfl
theorem EncodingLength.xor_a_d : EncodingLength.Statement .xor_a_d := rfl
theorem EncodingLength.xor_a_e : EncodingLength.Statement .xor_a_e := rfl
theorem EncodingLength.xor_a_h : EncodingLength.Statement .xor_a_h := rfl
theorem EncodingLength.xor_a_l : EncodingLength.Statement .xor_a_l := rfl
theorem EncodingLength.xor_a_atHL : EncodingLength.Statement .xor_a_atHL := rfl
theorem EncodingLength.xor_a_a : EncodingLength.Statement .xor_a_a := rfl
theorem EncodingLength.or_a_b : EncodingLength.Statement .or_a_b := rfl
theorem EncodingLength.or_a_c : EncodingLength.Statement .or_a_c := rfl
theorem EncodingLength.or_a_d : EncodingLength.Statement .or_a_d := rfl
theorem EncodingLength.or_a_e : EncodingLength.Statement .or_a_e := rfl
theorem EncodingLength.or_a_h : EncodingLength.Statement .or_a_h := rfl
theorem EncodingLength.or_a_l : EncodingLength.Statement .or_a_l := rfl
theorem EncodingLength.or_a_atHL : EncodingLength.Statement .or_a_atHL := rfl
theorem EncodingLength.or_a_a : EncodingLength.Statement .or_a_a := rfl
theorem EncodingLength.cp_a_b : EncodingLength.Statement .cp_a_b := rfl
theorem EncodingLength.cp_a_c : EncodingLength.Statement .cp_a_c := rfl
theorem EncodingLength.cp_a_d : EncodingLength.Statement .cp_a_d := rfl
theorem EncodingLength.cp_a_e : EncodingLength.Statement .cp_a_e := rfl
theorem EncodingLength.cp_a_h : EncodingLength.Statement .cp_a_h := rfl
theorem EncodingLength.cp_a_l : EncodingLength.Statement .cp_a_l := rfl
theorem EncodingLength.cp_a_atHL : EncodingLength.Statement .cp_a_atHL := rfl
theorem EncodingLength.cp_a_a : EncodingLength.Statement .cp_a_a := rfl
theorem EncodingLength.ret_nz : EncodingLength.Statement .ret_nz := rfl
theorem EncodingLength.pop_bc : EncodingLength.Statement .pop_bc := rfl
theorem EncodingLength.jp_nz_n16 (nn : Word) : EncodingLength.Statement (.jp_nz_n16 nn) := rfl
theorem EncodingLength.jp_n16 (nn : Word) : EncodingLength.Statement (.jp_n16 nn) := rfl
theorem EncodingLength.call_nz_n16 (nn : Word) : EncodingLength.Statement (.call_nz_n16 nn) := rfl
theorem EncodingLength.push_bc : EncodingLength.Statement .push_bc := rfl
theorem EncodingLength.add_a_n8 (n : Byte) : EncodingLength.Statement (.add_a_n8 n) := rfl
theorem EncodingLength.rst_00 : EncodingLength.Statement .rst_00 := rfl
theorem EncodingLength.ret_z : EncodingLength.Statement .ret_z := rfl
theorem EncodingLength.ret : EncodingLength.Statement .ret := rfl
theorem EncodingLength.jp_z_n16 (nn : Word) : EncodingLength.Statement (.jp_z_n16 nn) := rfl
theorem EncodingLength.call_z_n16 (nn : Word) : EncodingLength.Statement (.call_z_n16 nn) := rfl
theorem EncodingLength.call_n16 (nn : Word) : EncodingLength.Statement (.call_n16 nn) := rfl
theorem EncodingLength.adc_a_n8 (n : Byte) : EncodingLength.Statement (.adc_a_n8 n) := rfl
theorem EncodingLength.rst_08 : EncodingLength.Statement .rst_08 := rfl
theorem EncodingLength.ret_nc : EncodingLength.Statement .ret_nc := rfl
theorem EncodingLength.pop_de : EncodingLength.Statement .pop_de := rfl
theorem EncodingLength.jp_nc_n16 (nn : Word) : EncodingLength.Statement (.jp_nc_n16 nn) := rfl
theorem EncodingLength.call_nc_n16 (nn : Word) : EncodingLength.Statement (.call_nc_n16 nn) := rfl
theorem EncodingLength.push_de : EncodingLength.Statement .push_de := rfl
theorem EncodingLength.sub_a_n8 (n : Byte) : EncodingLength.Statement (.sub_a_n8 n) := rfl
theorem EncodingLength.rst_10 : EncodingLength.Statement .rst_10 := rfl
theorem EncodingLength.ret_c : EncodingLength.Statement .ret_c := rfl
theorem EncodingLength.reti : EncodingLength.Statement .reti := rfl
theorem EncodingLength.jp_c_n16 (nn : Word) : EncodingLength.Statement (.jp_c_n16 nn) := rfl
theorem EncodingLength.call_c_n16 (nn : Word) : EncodingLength.Statement (.call_c_n16 nn) := rfl
theorem EncodingLength.sbc_a_n8 (n : Byte) : EncodingLength.Statement (.sbc_a_n8 n) := rfl
theorem EncodingLength.rst_18 : EncodingLength.Statement .rst_18 := rfl
theorem EncodingLength.ldh_atN8_a (n : Byte) : EncodingLength.Statement (.ldh_atN8_a n) := rfl
theorem EncodingLength.pop_hl : EncodingLength.Statement .pop_hl := rfl
theorem EncodingLength.ld_atC_a : EncodingLength.Statement .ld_atC_a := rfl
theorem EncodingLength.push_hl : EncodingLength.Statement .push_hl := rfl
theorem EncodingLength.and_a_n8 (n : Byte) : EncodingLength.Statement (.and_a_n8 n) := rfl
theorem EncodingLength.rst_20 : EncodingLength.Statement .rst_20 := rfl
theorem EncodingLength.add_sp_e8 (e : Byte) : EncodingLength.Statement (.add_sp_e8 e) := rfl
theorem EncodingLength.jp_hl : EncodingLength.Statement .jp_hl := rfl
theorem EncodingLength.ld_atN16_a (nn : Word) : EncodingLength.Statement (.ld_atN16_a nn) := rfl
theorem EncodingLength.xor_a_n8 (n : Byte) : EncodingLength.Statement (.xor_a_n8 n) := rfl
theorem EncodingLength.rst_28 : EncodingLength.Statement .rst_28 := rfl
theorem EncodingLength.ldh_a_atN8 (n : Byte) : EncodingLength.Statement (.ldh_a_atN8 n) := rfl
theorem EncodingLength.pop_af : EncodingLength.Statement .pop_af := rfl
theorem EncodingLength.ld_a_atC : EncodingLength.Statement .ld_a_atC := rfl
theorem EncodingLength.di : EncodingLength.Statement .di := rfl
theorem EncodingLength.push_af : EncodingLength.Statement .push_af := rfl
theorem EncodingLength.or_a_n8 (n : Byte) : EncodingLength.Statement (.or_a_n8 n) := rfl
theorem EncodingLength.rst_30 : EncodingLength.Statement .rst_30 := rfl
theorem EncodingLength.ld_hl_sp_e8 (e : Byte) : EncodingLength.Statement (.ld_hl_sp_e8 e) := rfl
theorem EncodingLength.ld_sp_hl : EncodingLength.Statement .ld_sp_hl := rfl
theorem EncodingLength.ld_a_atN16 (nn : Word) : EncodingLength.Statement (.ld_a_atN16 nn) := rfl
theorem EncodingLength.ei : EncodingLength.Statement .ei := rfl
theorem EncodingLength.cp_a_n8 (n : Byte) : EncodingLength.Statement (.cp_a_n8 n) := rfl
theorem EncodingLength.rst_38 : EncodingLength.Statement .rst_38 := rfl
theorem EncodingLength.rlc_b : EncodingLength.Statement .rlc_b := rfl
theorem EncodingLength.rlc_c : EncodingLength.Statement .rlc_c := rfl
theorem EncodingLength.rlc_d : EncodingLength.Statement .rlc_d := rfl
theorem EncodingLength.rlc_e : EncodingLength.Statement .rlc_e := rfl
theorem EncodingLength.rlc_h : EncodingLength.Statement .rlc_h := rfl
theorem EncodingLength.rlc_l : EncodingLength.Statement .rlc_l := rfl
theorem EncodingLength.rlc_atHL : EncodingLength.Statement .rlc_atHL := rfl
theorem EncodingLength.rlc_a : EncodingLength.Statement .rlc_a := rfl
theorem EncodingLength.rrc_b : EncodingLength.Statement .rrc_b := rfl
theorem EncodingLength.rrc_c : EncodingLength.Statement .rrc_c := rfl
theorem EncodingLength.rrc_d : EncodingLength.Statement .rrc_d := rfl
theorem EncodingLength.rrc_e : EncodingLength.Statement .rrc_e := rfl
theorem EncodingLength.rrc_h : EncodingLength.Statement .rrc_h := rfl
theorem EncodingLength.rrc_l : EncodingLength.Statement .rrc_l := rfl
theorem EncodingLength.rrc_atHL : EncodingLength.Statement .rrc_atHL := rfl
theorem EncodingLength.rrc_a : EncodingLength.Statement .rrc_a := rfl
theorem EncodingLength.rl_b : EncodingLength.Statement .rl_b := rfl
theorem EncodingLength.rl_c : EncodingLength.Statement .rl_c := rfl
theorem EncodingLength.rl_d : EncodingLength.Statement .rl_d := rfl
theorem EncodingLength.rl_e : EncodingLength.Statement .rl_e := rfl
theorem EncodingLength.rl_h : EncodingLength.Statement .rl_h := rfl
theorem EncodingLength.rl_l : EncodingLength.Statement .rl_l := rfl
theorem EncodingLength.rl_atHL : EncodingLength.Statement .rl_atHL := rfl
theorem EncodingLength.rl_a : EncodingLength.Statement .rl_a := rfl
theorem EncodingLength.rr_b : EncodingLength.Statement .rr_b := rfl
theorem EncodingLength.rr_c : EncodingLength.Statement .rr_c := rfl
theorem EncodingLength.rr_d : EncodingLength.Statement .rr_d := rfl
theorem EncodingLength.rr_e : EncodingLength.Statement .rr_e := rfl
theorem EncodingLength.rr_h : EncodingLength.Statement .rr_h := rfl
theorem EncodingLength.rr_l : EncodingLength.Statement .rr_l := rfl
theorem EncodingLength.rr_atHL : EncodingLength.Statement .rr_atHL := rfl
theorem EncodingLength.rr_a : EncodingLength.Statement .rr_a := rfl
theorem EncodingLength.sla_b : EncodingLength.Statement .sla_b := rfl
theorem EncodingLength.sla_c : EncodingLength.Statement .sla_c := rfl
theorem EncodingLength.sla_d : EncodingLength.Statement .sla_d := rfl
theorem EncodingLength.sla_e : EncodingLength.Statement .sla_e := rfl
theorem EncodingLength.sla_h : EncodingLength.Statement .sla_h := rfl
theorem EncodingLength.sla_l : EncodingLength.Statement .sla_l := rfl
theorem EncodingLength.sla_atHL : EncodingLength.Statement .sla_atHL := rfl
theorem EncodingLength.sla_a : EncodingLength.Statement .sla_a := rfl
theorem EncodingLength.sra_b : EncodingLength.Statement .sra_b := rfl
theorem EncodingLength.sra_c : EncodingLength.Statement .sra_c := rfl
theorem EncodingLength.sra_d : EncodingLength.Statement .sra_d := rfl
theorem EncodingLength.sra_e : EncodingLength.Statement .sra_e := rfl
theorem EncodingLength.sra_h : EncodingLength.Statement .sra_h := rfl
theorem EncodingLength.sra_l : EncodingLength.Statement .sra_l := rfl
theorem EncodingLength.sra_atHL : EncodingLength.Statement .sra_atHL := rfl
theorem EncodingLength.sra_a : EncodingLength.Statement .sra_a := rfl
theorem EncodingLength.swap_b : EncodingLength.Statement .swap_b := rfl
theorem EncodingLength.swap_c : EncodingLength.Statement .swap_c := rfl
theorem EncodingLength.swap_d : EncodingLength.Statement .swap_d := rfl
theorem EncodingLength.swap_e : EncodingLength.Statement .swap_e := rfl
theorem EncodingLength.swap_h : EncodingLength.Statement .swap_h := rfl
theorem EncodingLength.swap_l : EncodingLength.Statement .swap_l := rfl
theorem EncodingLength.swap_atHL : EncodingLength.Statement .swap_atHL := rfl
theorem EncodingLength.swap_a : EncodingLength.Statement .swap_a := rfl
theorem EncodingLength.srl_b : EncodingLength.Statement .srl_b := rfl
theorem EncodingLength.srl_c : EncodingLength.Statement .srl_c := rfl
theorem EncodingLength.srl_d : EncodingLength.Statement .srl_d := rfl
theorem EncodingLength.srl_e : EncodingLength.Statement .srl_e := rfl
theorem EncodingLength.srl_h : EncodingLength.Statement .srl_h := rfl
theorem EncodingLength.srl_l : EncodingLength.Statement .srl_l := rfl
theorem EncodingLength.srl_atHL : EncodingLength.Statement .srl_atHL := rfl
theorem EncodingLength.srl_a : EncodingLength.Statement .srl_a := rfl
theorem EncodingLength.bit_0_b : EncodingLength.Statement .bit_0_b := rfl
theorem EncodingLength.bit_0_c : EncodingLength.Statement .bit_0_c := rfl
theorem EncodingLength.bit_0_d : EncodingLength.Statement .bit_0_d := rfl
theorem EncodingLength.bit_0_e : EncodingLength.Statement .bit_0_e := rfl
theorem EncodingLength.bit_0_h : EncodingLength.Statement .bit_0_h := rfl
theorem EncodingLength.bit_0_l : EncodingLength.Statement .bit_0_l := rfl
theorem EncodingLength.bit_0_atHL : EncodingLength.Statement .bit_0_atHL := rfl
theorem EncodingLength.bit_0_a : EncodingLength.Statement .bit_0_a := rfl
theorem EncodingLength.bit_1_b : EncodingLength.Statement .bit_1_b := rfl
theorem EncodingLength.bit_1_c : EncodingLength.Statement .bit_1_c := rfl
theorem EncodingLength.bit_1_d : EncodingLength.Statement .bit_1_d := rfl
theorem EncodingLength.bit_1_e : EncodingLength.Statement .bit_1_e := rfl
theorem EncodingLength.bit_1_h : EncodingLength.Statement .bit_1_h := rfl
theorem EncodingLength.bit_1_l : EncodingLength.Statement .bit_1_l := rfl
theorem EncodingLength.bit_1_atHL : EncodingLength.Statement .bit_1_atHL := rfl
theorem EncodingLength.bit_1_a : EncodingLength.Statement .bit_1_a := rfl
theorem EncodingLength.bit_2_b : EncodingLength.Statement .bit_2_b := rfl
theorem EncodingLength.bit_2_c : EncodingLength.Statement .bit_2_c := rfl
theorem EncodingLength.bit_2_d : EncodingLength.Statement .bit_2_d := rfl
theorem EncodingLength.bit_2_e : EncodingLength.Statement .bit_2_e := rfl
theorem EncodingLength.bit_2_h : EncodingLength.Statement .bit_2_h := rfl
theorem EncodingLength.bit_2_l : EncodingLength.Statement .bit_2_l := rfl
theorem EncodingLength.bit_2_atHL : EncodingLength.Statement .bit_2_atHL := rfl
theorem EncodingLength.bit_2_a : EncodingLength.Statement .bit_2_a := rfl
theorem EncodingLength.bit_3_b : EncodingLength.Statement .bit_3_b := rfl
theorem EncodingLength.bit_3_c : EncodingLength.Statement .bit_3_c := rfl
theorem EncodingLength.bit_3_d : EncodingLength.Statement .bit_3_d := rfl
theorem EncodingLength.bit_3_e : EncodingLength.Statement .bit_3_e := rfl
theorem EncodingLength.bit_3_h : EncodingLength.Statement .bit_3_h := rfl
theorem EncodingLength.bit_3_l : EncodingLength.Statement .bit_3_l := rfl
theorem EncodingLength.bit_3_atHL : EncodingLength.Statement .bit_3_atHL := rfl
theorem EncodingLength.bit_3_a : EncodingLength.Statement .bit_3_a := rfl
theorem EncodingLength.bit_4_b : EncodingLength.Statement .bit_4_b := rfl
theorem EncodingLength.bit_4_c : EncodingLength.Statement .bit_4_c := rfl
theorem EncodingLength.bit_4_d : EncodingLength.Statement .bit_4_d := rfl
theorem EncodingLength.bit_4_e : EncodingLength.Statement .bit_4_e := rfl
theorem EncodingLength.bit_4_h : EncodingLength.Statement .bit_4_h := rfl
theorem EncodingLength.bit_4_l : EncodingLength.Statement .bit_4_l := rfl
theorem EncodingLength.bit_4_atHL : EncodingLength.Statement .bit_4_atHL := rfl
theorem EncodingLength.bit_4_a : EncodingLength.Statement .bit_4_a := rfl
theorem EncodingLength.bit_5_b : EncodingLength.Statement .bit_5_b := rfl
theorem EncodingLength.bit_5_c : EncodingLength.Statement .bit_5_c := rfl
theorem EncodingLength.bit_5_d : EncodingLength.Statement .bit_5_d := rfl
theorem EncodingLength.bit_5_e : EncodingLength.Statement .bit_5_e := rfl
theorem EncodingLength.bit_5_h : EncodingLength.Statement .bit_5_h := rfl
theorem EncodingLength.bit_5_l : EncodingLength.Statement .bit_5_l := rfl
theorem EncodingLength.bit_5_atHL : EncodingLength.Statement .bit_5_atHL := rfl
theorem EncodingLength.bit_5_a : EncodingLength.Statement .bit_5_a := rfl
theorem EncodingLength.bit_6_b : EncodingLength.Statement .bit_6_b := rfl
theorem EncodingLength.bit_6_c : EncodingLength.Statement .bit_6_c := rfl
theorem EncodingLength.bit_6_d : EncodingLength.Statement .bit_6_d := rfl
theorem EncodingLength.bit_6_e : EncodingLength.Statement .bit_6_e := rfl
theorem EncodingLength.bit_6_h : EncodingLength.Statement .bit_6_h := rfl
theorem EncodingLength.bit_6_l : EncodingLength.Statement .bit_6_l := rfl
theorem EncodingLength.bit_6_atHL : EncodingLength.Statement .bit_6_atHL := rfl
theorem EncodingLength.bit_6_a : EncodingLength.Statement .bit_6_a := rfl
theorem EncodingLength.bit_7_b : EncodingLength.Statement .bit_7_b := rfl
theorem EncodingLength.bit_7_c : EncodingLength.Statement .bit_7_c := rfl
theorem EncodingLength.bit_7_d : EncodingLength.Statement .bit_7_d := rfl
theorem EncodingLength.bit_7_e : EncodingLength.Statement .bit_7_e := rfl
theorem EncodingLength.bit_7_h : EncodingLength.Statement .bit_7_h := rfl
theorem EncodingLength.bit_7_l : EncodingLength.Statement .bit_7_l := rfl
theorem EncodingLength.bit_7_atHL : EncodingLength.Statement .bit_7_atHL := rfl
theorem EncodingLength.bit_7_a : EncodingLength.Statement .bit_7_a := rfl
theorem EncodingLength.res_0_b : EncodingLength.Statement .res_0_b := rfl
theorem EncodingLength.res_0_c : EncodingLength.Statement .res_0_c := rfl
theorem EncodingLength.res_0_d : EncodingLength.Statement .res_0_d := rfl
theorem EncodingLength.res_0_e : EncodingLength.Statement .res_0_e := rfl
theorem EncodingLength.res_0_h : EncodingLength.Statement .res_0_h := rfl
theorem EncodingLength.res_0_l : EncodingLength.Statement .res_0_l := rfl
theorem EncodingLength.res_0_atHL : EncodingLength.Statement .res_0_atHL := rfl
theorem EncodingLength.res_0_a : EncodingLength.Statement .res_0_a := rfl
theorem EncodingLength.res_1_b : EncodingLength.Statement .res_1_b := rfl
theorem EncodingLength.res_1_c : EncodingLength.Statement .res_1_c := rfl
theorem EncodingLength.res_1_d : EncodingLength.Statement .res_1_d := rfl
theorem EncodingLength.res_1_e : EncodingLength.Statement .res_1_e := rfl
theorem EncodingLength.res_1_h : EncodingLength.Statement .res_1_h := rfl
theorem EncodingLength.res_1_l : EncodingLength.Statement .res_1_l := rfl
theorem EncodingLength.res_1_atHL : EncodingLength.Statement .res_1_atHL := rfl
theorem EncodingLength.res_1_a : EncodingLength.Statement .res_1_a := rfl
theorem EncodingLength.res_2_b : EncodingLength.Statement .res_2_b := rfl
theorem EncodingLength.res_2_c : EncodingLength.Statement .res_2_c := rfl
theorem EncodingLength.res_2_d : EncodingLength.Statement .res_2_d := rfl
theorem EncodingLength.res_2_e : EncodingLength.Statement .res_2_e := rfl
theorem EncodingLength.res_2_h : EncodingLength.Statement .res_2_h := rfl
theorem EncodingLength.res_2_l : EncodingLength.Statement .res_2_l := rfl
theorem EncodingLength.res_2_atHL : EncodingLength.Statement .res_2_atHL := rfl
theorem EncodingLength.res_2_a : EncodingLength.Statement .res_2_a := rfl
theorem EncodingLength.res_3_b : EncodingLength.Statement .res_3_b := rfl
theorem EncodingLength.res_3_c : EncodingLength.Statement .res_3_c := rfl
theorem EncodingLength.res_3_d : EncodingLength.Statement .res_3_d := rfl
theorem EncodingLength.res_3_e : EncodingLength.Statement .res_3_e := rfl
theorem EncodingLength.res_3_h : EncodingLength.Statement .res_3_h := rfl
theorem EncodingLength.res_3_l : EncodingLength.Statement .res_3_l := rfl
theorem EncodingLength.res_3_atHL : EncodingLength.Statement .res_3_atHL := rfl
theorem EncodingLength.res_3_a : EncodingLength.Statement .res_3_a := rfl
theorem EncodingLength.res_4_b : EncodingLength.Statement .res_4_b := rfl
theorem EncodingLength.res_4_c : EncodingLength.Statement .res_4_c := rfl
theorem EncodingLength.res_4_d : EncodingLength.Statement .res_4_d := rfl
theorem EncodingLength.res_4_e : EncodingLength.Statement .res_4_e := rfl
theorem EncodingLength.res_4_h : EncodingLength.Statement .res_4_h := rfl
theorem EncodingLength.res_4_l : EncodingLength.Statement .res_4_l := rfl
theorem EncodingLength.res_4_atHL : EncodingLength.Statement .res_4_atHL := rfl
theorem EncodingLength.res_4_a : EncodingLength.Statement .res_4_a := rfl
theorem EncodingLength.res_5_b : EncodingLength.Statement .res_5_b := rfl
theorem EncodingLength.res_5_c : EncodingLength.Statement .res_5_c := rfl
theorem EncodingLength.res_5_d : EncodingLength.Statement .res_5_d := rfl
theorem EncodingLength.res_5_e : EncodingLength.Statement .res_5_e := rfl
theorem EncodingLength.res_5_h : EncodingLength.Statement .res_5_h := rfl
theorem EncodingLength.res_5_l : EncodingLength.Statement .res_5_l := rfl
theorem EncodingLength.res_5_atHL : EncodingLength.Statement .res_5_atHL := rfl
theorem EncodingLength.res_5_a : EncodingLength.Statement .res_5_a := rfl
theorem EncodingLength.res_6_b : EncodingLength.Statement .res_6_b := rfl
theorem EncodingLength.res_6_c : EncodingLength.Statement .res_6_c := rfl
theorem EncodingLength.res_6_d : EncodingLength.Statement .res_6_d := rfl
theorem EncodingLength.res_6_e : EncodingLength.Statement .res_6_e := rfl
theorem EncodingLength.res_6_h : EncodingLength.Statement .res_6_h := rfl
theorem EncodingLength.res_6_l : EncodingLength.Statement .res_6_l := rfl
theorem EncodingLength.res_6_atHL : EncodingLength.Statement .res_6_atHL := rfl
theorem EncodingLength.res_6_a : EncodingLength.Statement .res_6_a := rfl
theorem EncodingLength.res_7_b : EncodingLength.Statement .res_7_b := rfl
theorem EncodingLength.res_7_c : EncodingLength.Statement .res_7_c := rfl
theorem EncodingLength.res_7_d : EncodingLength.Statement .res_7_d := rfl
theorem EncodingLength.res_7_e : EncodingLength.Statement .res_7_e := rfl
theorem EncodingLength.res_7_h : EncodingLength.Statement .res_7_h := rfl
theorem EncodingLength.res_7_l : EncodingLength.Statement .res_7_l := rfl
theorem EncodingLength.res_7_atHL : EncodingLength.Statement .res_7_atHL := rfl
theorem EncodingLength.res_7_a : EncodingLength.Statement .res_7_a := rfl
theorem EncodingLength.set_0_b : EncodingLength.Statement .set_0_b := rfl
theorem EncodingLength.set_0_c : EncodingLength.Statement .set_0_c := rfl
theorem EncodingLength.set_0_d : EncodingLength.Statement .set_0_d := rfl
theorem EncodingLength.set_0_e : EncodingLength.Statement .set_0_e := rfl
theorem EncodingLength.set_0_h : EncodingLength.Statement .set_0_h := rfl
theorem EncodingLength.set_0_l : EncodingLength.Statement .set_0_l := rfl
theorem EncodingLength.set_0_atHL : EncodingLength.Statement .set_0_atHL := rfl
theorem EncodingLength.set_0_a : EncodingLength.Statement .set_0_a := rfl
theorem EncodingLength.set_1_b : EncodingLength.Statement .set_1_b := rfl
theorem EncodingLength.set_1_c : EncodingLength.Statement .set_1_c := rfl
theorem EncodingLength.set_1_d : EncodingLength.Statement .set_1_d := rfl
theorem EncodingLength.set_1_e : EncodingLength.Statement .set_1_e := rfl
theorem EncodingLength.set_1_h : EncodingLength.Statement .set_1_h := rfl
theorem EncodingLength.set_1_l : EncodingLength.Statement .set_1_l := rfl
theorem EncodingLength.set_1_atHL : EncodingLength.Statement .set_1_atHL := rfl
theorem EncodingLength.set_1_a : EncodingLength.Statement .set_1_a := rfl
theorem EncodingLength.set_2_b : EncodingLength.Statement .set_2_b := rfl
theorem EncodingLength.set_2_c : EncodingLength.Statement .set_2_c := rfl
theorem EncodingLength.set_2_d : EncodingLength.Statement .set_2_d := rfl
theorem EncodingLength.set_2_e : EncodingLength.Statement .set_2_e := rfl
theorem EncodingLength.set_2_h : EncodingLength.Statement .set_2_h := rfl
theorem EncodingLength.set_2_l : EncodingLength.Statement .set_2_l := rfl
theorem EncodingLength.set_2_atHL : EncodingLength.Statement .set_2_atHL := rfl
theorem EncodingLength.set_2_a : EncodingLength.Statement .set_2_a := rfl
theorem EncodingLength.set_3_b : EncodingLength.Statement .set_3_b := rfl
theorem EncodingLength.set_3_c : EncodingLength.Statement .set_3_c := rfl
theorem EncodingLength.set_3_d : EncodingLength.Statement .set_3_d := rfl
theorem EncodingLength.set_3_e : EncodingLength.Statement .set_3_e := rfl
theorem EncodingLength.set_3_h : EncodingLength.Statement .set_3_h := rfl
theorem EncodingLength.set_3_l : EncodingLength.Statement .set_3_l := rfl
theorem EncodingLength.set_3_atHL : EncodingLength.Statement .set_3_atHL := rfl
theorem EncodingLength.set_3_a : EncodingLength.Statement .set_3_a := rfl
theorem EncodingLength.set_4_b : EncodingLength.Statement .set_4_b := rfl
theorem EncodingLength.set_4_c : EncodingLength.Statement .set_4_c := rfl
theorem EncodingLength.set_4_d : EncodingLength.Statement .set_4_d := rfl
theorem EncodingLength.set_4_e : EncodingLength.Statement .set_4_e := rfl
theorem EncodingLength.set_4_h : EncodingLength.Statement .set_4_h := rfl
theorem EncodingLength.set_4_l : EncodingLength.Statement .set_4_l := rfl
theorem EncodingLength.set_4_atHL : EncodingLength.Statement .set_4_atHL := rfl
theorem EncodingLength.set_4_a : EncodingLength.Statement .set_4_a := rfl
theorem EncodingLength.set_5_b : EncodingLength.Statement .set_5_b := rfl
theorem EncodingLength.set_5_c : EncodingLength.Statement .set_5_c := rfl
theorem EncodingLength.set_5_d : EncodingLength.Statement .set_5_d := rfl
theorem EncodingLength.set_5_e : EncodingLength.Statement .set_5_e := rfl
theorem EncodingLength.set_5_h : EncodingLength.Statement .set_5_h := rfl
theorem EncodingLength.set_5_l : EncodingLength.Statement .set_5_l := rfl
theorem EncodingLength.set_5_atHL : EncodingLength.Statement .set_5_atHL := rfl
theorem EncodingLength.set_5_a : EncodingLength.Statement .set_5_a := rfl
theorem EncodingLength.set_6_b : EncodingLength.Statement .set_6_b := rfl
theorem EncodingLength.set_6_c : EncodingLength.Statement .set_6_c := rfl
theorem EncodingLength.set_6_d : EncodingLength.Statement .set_6_d := rfl
theorem EncodingLength.set_6_e : EncodingLength.Statement .set_6_e := rfl
theorem EncodingLength.set_6_h : EncodingLength.Statement .set_6_h := rfl
theorem EncodingLength.set_6_l : EncodingLength.Statement .set_6_l := rfl
theorem EncodingLength.set_6_atHL : EncodingLength.Statement .set_6_atHL := rfl
theorem EncodingLength.set_6_a : EncodingLength.Statement .set_6_a := rfl
theorem EncodingLength.set_7_b : EncodingLength.Statement .set_7_b := rfl
theorem EncodingLength.set_7_c : EncodingLength.Statement .set_7_c := rfl
theorem EncodingLength.set_7_d : EncodingLength.Statement .set_7_d := rfl
theorem EncodingLength.set_7_e : EncodingLength.Statement .set_7_e := rfl
theorem EncodingLength.set_7_h : EncodingLength.Statement .set_7_h := rfl
theorem EncodingLength.set_7_l : EncodingLength.Statement .set_7_l := rfl
theorem EncodingLength.set_7_atHL : EncodingLength.Statement .set_7_atHL := rfl
theorem EncodingLength.set_7_a : EncodingLength.Statement .set_7_a := rfl
theorem EncodingLength.illegal_d3 : EncodingLength.Statement .illegal_d3 := rfl
theorem EncodingLength.illegal_db : EncodingLength.Statement .illegal_db := rfl
theorem EncodingLength.illegal_dd : EncodingLength.Statement .illegal_dd := rfl
theorem EncodingLength.illegal_e3 : EncodingLength.Statement .illegal_e3 := rfl
theorem EncodingLength.illegal_e4 : EncodingLength.Statement .illegal_e4 := rfl
theorem EncodingLength.illegal_eb : EncodingLength.Statement .illegal_eb := rfl
theorem EncodingLength.illegal_ec : EncodingLength.Statement .illegal_ec := rfl
theorem EncodingLength.illegal_ed : EncodingLength.Statement .illegal_ed := rfl
theorem EncodingLength.illegal_f4 : EncodingLength.Statement .illegal_f4 := rfl
theorem EncodingLength.illegal_fc : EncodingLength.Statement .illegal_fc := rfl
theorem EncodingLength.illegal_fd : EncodingLength.Statement .illegal_fd := rfl

end Sys2Proof.Laws
end

