-- ==== Sys2Proof/Tests/Slice0.lean ====
section
/-! SUPPORT. The model's own tests. Expected values come from the spec: the encodings of 30_encoding.md to
45_system.md, the worked examples and vectors of 95_test_vectors.md (named by their ids: W, VL, VA, VW, VB,
VC, VS, VI, VT, VD, VM, VR, VJ, VH), and the rules named. The theorems named `wit_` are the witnesses: states
and operands that meet a statement's hypotheses, at a boundary of each of its clauses. -/

namespace Sys2Proof.Tests

set_option Elab.async false

open Sys2Proof Sys2Proof.Machine

/-! ### Builders -/

/-- The reset state with these bytes in work RAM at 0xC000 and PC there. -/
def code (bytes : List Byte) : State :=
  placeBytes { State.reset with cpu := { State.reset.cpu with pc := 0xC000 } } 0xC000 bytes

/-- The CPU of a state changed. -/
def onCpu (f : Cpu → Cpu) (s : State) : State := { s with cpu := f s.cpu }

/-- The timer of a state changed. -/
def onTimer (f : Timer → Timer) (s : State) : State := { s with timer := f s.timer }

/-- The LCD controller of a state changed. -/
def onLcd (f : Lcd → Lcd) (s : State) : State := { s with lcd := f s.lcd }

/-- What `read` sees in an answer, when it is a next state. -/
def seen {α : Type} (read : State → α) : Result State → Option α
  | .next t => some (read t)
  | .fault _ => none
  | .refused _ => none

/-- What `read` sees after one step of the code at 0xC000, from the reset state changed by `f`. -/
def ran {α : Type} (bytes : List Byte) (f : State → State) (read : State → α) : Option α :=
  seen read (step (f (code bytes)))

/-- A, F and W. -/
def afw (t : State) : Byte × Byte × Option Nat := (t.cpu.a, t.cpu.f, t.cpu.wake)

/-- PC, SP and W. -/
def psw (t : State) : Word × Word × Option Nat := (t.cpu.pc, t.cpu.sp, t.cpu.wake)

/-! ### Well-formedness -/

/-! No term of `Instr` is ill-formed (assumption log 6), so the check is on byte strings. -/

theorem test_wf_empty_is_refused : wellFormedBytes [] = false := by decide

theorem test_wf_lone_prefix_is_refused : wellFormedBytes [0xCB] = false := by decide

theorem test_wf_missing_operand_is_refused : wellFormedBytes [0x01, 0x34] = false := by decide

theorem test_wf_extra_byte_is_refused : wellFormedBytes [0x00, 0x00] = false := by decide

theorem test_wf_one_instruction : wellFormedBytes [0x01, 0x34, 0x12] = true := by decide

theorem test_decode_rejects_empty : decode [] = .error .empty := by decide

theorem test_decode_rejects_truncated : decode [0xC3, 0x50] = .error (.truncated 0xC3) := by decide

/-! ### Decoding, from the encodings of the rules -/

/-- R202: 01 ddd sss with ddd = 000 (B), sss = 001 (C). -/
theorem test_decode_ld_r_r : decode [0b01000001] = .ok (.ld_b_c, []) := by decide

/-- R204: 01 ddd 110. -/
theorem test_decode_ld_r_hl : decode [0b01111110] = .ok (.ld_a_atHL, []) := by decide

/-- R205: 01 110 sss. -/
theorem test_decode_ld_hl_r : decode [0b01110101] = .ok (.ld_atHL_l, []) := by decide

/-- R203: 00 ddd 110. -/
theorem test_decode_ld_r_n8 : decode [0b00101110, 0x9F] = .ok (.ld_l_n8 0x9F, []) := by decide

/-- R222; the low byte comes first (R121). -/
theorem test_decode_ld_n16_sp : decode [0b00001000, 0x00, 0xC1] = .ok (.ld_atN16_sp 0xC100, []) := by decide

/-- R217. -/
theorem test_decode_ld_inc : decode [0b00101010] = .ok (.ld_a_atHLinc, []) := by decide

/-- R214. -/
theorem test_decode_ldh : decode [0b11100000, 0x50] = .ok (.ldh_atN8_a 0x50, []) := by decide

/-- R224: 11 qq 0101 with qq = 11 (AF). -/
theorem test_decode_push : decode [0b11110101] = .ok (.push_af, []) := by decide

/-- R225. -/
theorem test_decode_pop : decode [0b11000001] = .ok (.pop_bc, []) := by decide

/-- R259: 10 011 sss. -/
theorem test_decode_alu_reg : decode [0b10011010] = .ok (.sbc_a_d, []) := by decide

/-- R272. -/
theorem test_decode_alu_imm : decode [0b11111110, 0x3C] = .ok (.cp_a_n8 0x3C, []) := by decide

/-- R264. -/
theorem test_decode_alu_hl : decode [0b10100110] = .ok (.and_a_atHL, []) := by decide

/-- R275. -/
theorem test_decode_inc : decode [0b00110100] = .ok (.inc_atHL, []) := by decide

/-- R278. -/
theorem test_decode_daa : decode [0b00100111] = .ok (.daa, []) := by decide

/-- R304: 00 rr 1001 with rr = 11 (SP). -/
theorem test_decode_add_hl : decode [0b00111001] = .ok (.add_hl_sp, []) := by decide

/-- R305. -/
theorem test_decode_add_sp : decode [0b11101000, 0xFF] = .ok (.add_sp_e8 0xFF, []) := by decide

/-- R333. -/
theorem test_decode_rra : decode [0b00011111] = .ok (.rra, []) := by decide

/-- R346. -/
theorem test_decode_swap : decode [0b11001011, 0b00110111] = .ok (.swap_a, []) := by decide

/-- R351: 01 bbb 110 with bbb = 011. -/
theorem test_decode_bit : decode [0b11001011, 0b01011110] = .ok (.bit_3_atHL, []) := by decide

/-- R352. -/
theorem test_decode_res : decode [0b11001011, 0b10111111] = .ok (.res_7_a, []) := by decide

/-- R354. -/
theorem test_decode_set : decode [0b11001011, 0b11000000] = .ok (.set_0_b, []) := by decide

/-- R374: 001 cc 000 with cc = 10 (NC). -/
theorem test_decode_jr : decode [0b00110000, 0x80] = .ok (.jr_nc_e8 0x80, []) := by decide

/-- R376. -/
theorem test_decode_call : decode [0b11001100, 0x00, 0x02] = .ok (.call_z_n16 0x0200, []) := by decide

/-- R379. -/
theorem test_decode_ret : decode [0b11011001] = .ok (.reti, []) := by decide

/-- R380: 11 ttt 111 with ttt = 111. -/
theorem test_decode_rst : decode [0b11111111] = .ok (.rst_38, []) := by decide

/-- R402: two bytes. -/
theorem test_decode_stop : decode [0b00010000, 0x00] = .ok (.stop 0x00, []) := by decide

/-- R405. -/
theorem test_decode_illegal : decode [0b11010011] = .ok (.illegal_d3, []) := by decide

/-- The opcode table writes the prefix as the high byte (assumption log 4). -/
theorem test_table_word_prefixed : decodeTableWord 16 0xCB37 = some .swap_a := by decide

theorem test_table_word_immediate : decodeTableWord 24 0xC100FA = some (.ld_a_atN16 0xC100) := by decide

/-! ### One step: loads -/

theorem test_VL2_ld_hlinc_a :
    ran [0x22]
      (fun s => onCpu (fun u => { u with a := 0x77, h := 0xFF, l := 0xFF }) s)
      (fun t => (t.cpu.ie, t.cpu.hl, t.cpu.wake)) =
      some (0x17, 0x0000, some 2) := by decide

theorem test_VL3_ld_a_hldec :
    ran [0x3A]
      (fun s => onCpu (fun u => { u with h := 0x00, l := 0x00 }) s)
      (fun t => (t.cpu.a, t.cpu.hl, t.cpu.wake)) =
      some (0x00, 0xFFFF, some 2) := by decide

theorem test_VL4_ld_n16_sp :
    ran [0x08, 0x00, 0xC1]
      (fun s => onCpu (fun u => { u with sp := 0xABCD }) s)
      (fun t => (t.busRead 0xC100, t.busRead 0xC101, t.cpu.wake)) =
      some (0xCD, 0xAB, some 5) := by decide

theorem test_VL5_push :
    ran [0xC5]
      (fun s => onCpu (fun u => { u with sp := 0xD000, b := 0x12, c := 0x34 }) s)
      (fun t => (t.cpu.sp, t.busRead 0xCFFE, t.busRead 0xCFFF, t.cpu.wake)) =
      some (0xCFFE, 0x34, 0x12, some 4) := by decide

theorem test_VL6_pop_af :
    ran [0xF1]
      (fun s => onCpu (fun u => { u with sp := 0xCFFE }) (State.busWrite (State.busWrite s 0xCFFE 0xFF) 0xCFFF 0x12))
      (fun t => (t.cpu.a, t.cpu.f, t.cpu.sp, t.cpu.wake)) =
      some (0x12, 0xF0, 0xD000, some 3) := by decide

theorem test_VL7_pop_wraps :
    ran [0xC1]
      (fun s => onCpu (fun u => { u with sp := 0xFFFF, ie := 0x1F }) s)
      (fun t => (t.cpu.c, t.cpu.b, t.cpu.sp, t.cpu.wake)) =
      some (0x1F, 0x00, 0x0001, some 3) := by decide

theorem test_VL10_ld_a_c :
    ran [0xF2]
      (fun s => onCpu (fun u => { u with c := 0x04 }) (onTimer (fun t => { t with divc := 0x1230 }) s))
      (fun t => (t.cpu.a, t.timer.divc, t.cpu.wake)) =
      some (0x12, 0x1234, some 2) := by decide

theorem test_VL11_ld_c_a :
    ran [0xE2]
      (fun s => onCpu (fun u => { u with c := 0x0F, a := 0xFF }) s)
      (fun t => (t.cpu.iflag, t.cpu.wake)) =
      some (0x1F, some 2) := by decide

theorem test_VL12_echo :
    ran [0xFA, 0x34, 0xE1]
      (fun s => State.busWrite s 0xC134 0x99)
      (fun t => (t.cpu.a, t.cpu.wake)) =
      some (0x99, some 4) := by decide

theorem test_VL14_unmapped :
    ran [0xFA, 0x00, 0xA0] id (fun t => (t.cpu.a, t.cpu.wake)) =
      some (0xFF, some 4) := by decide

theorem test_VL18_boot_off :
    ran [0xE0, 0x50] id (fun t => (t.bootEn, t.cpu.wake)) =
      some (false, some 3) := by decide

/-! ### One step: arithmetic and logic -/

theorem test_VA1_add :
    ran [0x80]
      (fun s => onCpu (fun u => { u with a := 0x3A, b := 0xC6 }) s)
      afw =
      some (0x00, 0xB0, some 1) := by decide

theorem test_VA4_adc :
    ran [0x88]
      (fun s => onCpu (fun u => { u with a := 0xE1, b := 0x0F, f := 0x10 }) s)
      afw =
      some (0xF1, 0x20, some 1) := by decide

theorem test_VA8_sub :
    ran [0x90]
      (fun s => onCpu (fun u => { u with a := 0x10, b := 0x20 }) s)
      afw =
      some (0xF0, 0x50, some 1) := by decide

theorem test_VA10_sbc :
    ran [0xDE, 0x00]
      (fun s => onCpu (fun u => { u with a := 0x00, f := 0x10 }) s)
      afw =
      some (0xFF, 0x70, some 2) := by decide

theorem test_VA12_and :
    ran [0xE6, 0x00]
      (fun s => onCpu (fun u => { u with a := 0xFF }) s)
      afw =
      some (0x00, 0xA0, some 2) := by decide

theorem test_VA13_xor :
    ran [0xAF]
      (fun s => onCpu (fun u => { u with a := 0xFF, f := 0xF0 }) s)
      afw =
      some (0x00, 0x80, some 1) := by decide

theorem test_VA14_or :
    ran [0xF6, 0x03]
      (fun s => onCpu (fun u => { u with a := 0x5A, f := 0xF0 }) s)
      afw =
      some (0x5B, 0x00, some 2) := by decide

theorem test_VA17_cp :
    ran [0xFE, 0x40]
      (fun s => onCpu (fun u => { u with a := 0x3C }) s)
      afw =
      some (0x3C, 0x50, some 2) := by decide

theorem test_VA25_daa_carry :
    ran [0x27] (fun s => onCpu (fun u => { u with a := 0x9A }) s) afw =
      some (0x00, 0x90, some 1) := by decide

theorem test_VA29_daa_sub :
    ran [0x27]
      (fun s => onCpu (fun u => { u with a := 0xFA, f := 0x60 }) s)
      afw =
      some (0xF4, 0x40, some 1) := by decide

theorem test_VA30_cpl :
    ran [0x2F]
      (fun s => onCpu (fun u => { u with a := 0x35, f := 0x90 }) s)
      afw =
      some (0xCA, 0xF0, some 1) := by decide

theorem test_VA31_scf :
    ran [0x37] (fun s => onCpu (fun u => { u with f := 0xE0 }) s) afw =
      some (0x00, 0x90, some 1) := by decide

theorem test_VA32_ccf :
    ran [0x3F] (fun s => onCpu (fun u => { u with f := 0x70 }) s) afw =
      some (0x00, 0x00, some 1) := by decide

theorem test_VA18_inc :
    ran [0x04]
      (fun s => onCpu (fun u => { u with b := 0xFF, f := 0x10 }) s)
      (fun t => (t.cpu.b, t.cpu.f, t.cpu.wake)) =
      some (0x00, 0xB0, some 1) := by decide

theorem test_VA22_dec :
    ran [0x05]
      (fun s => onCpu (fun u => { u with b := 0x10 }) s)
      (fun t => (t.cpu.b, t.cpu.f, t.cpu.wake)) =
      some (0x0F, 0x60, some 1) := by decide

theorem test_VA23_inc_hl :
    ran [0x34]
      (fun s => onCpu (fun u => { u with h := 0xC1, l := 0x00 }) (State.busWrite s 0xC100 0xFF))
      (fun t => (t.busRead 0xC100, t.cpu.f, t.cpu.wake)) =
      some (0x00, 0xA0, some 3) := by decide

theorem test_VW1_add_hl_bc :
    ran [0x09]
      (fun s => onCpu (fun u => { u with h := 0x8A, l := 0x23, b := 0x06, c := 0x05, f := 0x80 }) s)
      (fun t => (t.cpu.hl, t.cpu.f, t.cpu.wake)) =
      some (0x9028, 0xA0, some 2) := by decide

theorem test_VW4_add_hl_sp :
    ran [0x39]
      (fun s => onCpu (fun u => { u with h := 0xFF, l := 0xFF, sp := 0x0001, f := 0x80 }) s)
      (fun t => (t.cpu.hl, t.cpu.f, t.cpu.wake)) =
      some (0x0000, 0xB0, some 2) := by decide

theorem test_VW7_add_sp :
    ran [0xE8, 0xFF]
      (fun s => onCpu (fun u => { u with sp := 0x0001 }) s)
      (fun t => (t.cpu.sp, t.cpu.f, t.cpu.wake)) =
      some (0x0000, 0x30, some 4) := by decide

theorem test_VW9_ld_hl_sp :
    ran [0xF8, 0x80]
      (fun s => onCpu (fun u => { u with sp := 0x0080 }) s)
      (fun t => (t.cpu.hl, t.cpu.f, t.cpu.wake)) =
      some (0x0000, 0x10, some 3) := by decide

theorem test_VW12_inc_sp :
    ran [0x33]
      (fun s => onCpu (fun u => { u with sp := 0xFFFF, f := 0xF0 }) s)
      (fun t => (t.cpu.sp, t.cpu.f, t.cpu.wake)) =
      some (0x0000, 0xF0, some 2) := by decide

/-! ### One step: rotates, shifts and bits -/

theorem test_VB2_rlca :
    ran [0x07] (fun s => onCpu (fun u => { u with f := 0x80 }) s) afw =
      some (0x00, 0x00, some 1) := by decide

theorem test_VB4_rla :
    ran [0x17]
      (fun s => onCpu (fun u => { u with a := 0x95, f := 0x10 }) s)
      afw =
      some (0x2B, 0x10, some 1) := by decide

theorem test_VB5_rra :
    ran [0x1F] (fun s => onCpu (fun u => { u with a := 0x81 }) s) afw =
      some (0x40, 0x10, some 1) := by decide

theorem test_VB6_rlc :
    ran [0xCB, 0x00]
      (fun s => onCpu (fun u => { u with f := 0x10 }) s)
      (fun t => (t.cpu.b, t.cpu.f, t.cpu.wake)) =
      some (0x00, 0x80, some 2) := by decide

theorem test_VB10_rr :
    ran [0xCB, 0x1B]
      (fun s => onCpu (fun u => { u with e := 0x01 }) s)
      (fun t => (t.cpu.e, t.cpu.f, t.cpu.wake)) =
      some (0x00, 0x90, some 2) := by decide

theorem test_VB12_sra :
    ran [0xCB, 0x2D]
      (fun s => onCpu (fun u => { u with l := 0x81 }) s)
      (fun t => (t.cpu.l, t.cpu.f, t.cpu.wake)) =
      some (0xC0, 0x10, some 2) := by decide

theorem test_VB14_swap :
    ran [0xCB, 0x37]
      (fun s => onCpu (fun u => { u with a := 0xF0, f := 0x10 }) s)
      afw =
      some (0x0F, 0x00, some 2) := by decide

theorem test_VB17_srl :
    ran [0xCB, 0x38]
      (fun s => onCpu (fun u => { u with b := 0xFF }) s)
      (fun t => (t.cpu.b, t.cpu.f, t.cpu.wake)) =
      some (0x7F, 0x10, some 2) := by decide

theorem test_VB18_bit :
    ran [0xCB, 0x7C]
      (fun s => onCpu (fun u => { u with h := 0x7F, f := 0x10 }) s)
      (fun t => (t.cpu.h, t.cpu.f, t.cpu.wake)) =
      some (0x7F, 0xB0, some 2) := by decide

theorem test_VB21_res :
    ran [0xCB, 0x86]
      (fun s => onCpu (fun u => { u with h := 0xC1, l := 0x00, f := 0xB0 }) (State.busWrite s 0xC100 0xFF))
      (fun t => (t.busRead 0xC100, t.cpu.f, t.cpu.wake)) =
      some (0xFE, 0xB0, some 4) := by decide

theorem test_VB23_set :
    ran [0xCB, 0xDF]
      (fun s => onCpu (fun u => { u with f := 0x50 }) s)
      afw =
      some (0x08, 0x50, some 2) := by decide

theorem test_VB26_swap_hl :
    ran [0xCB, 0x36]
      (fun s => onCpu (fun u => { u with h := 0xC1, l := 0x00 }) (State.busWrite s 0xC100 0x12))
      (fun t => (t.busRead 0xC100, t.cpu.f, t.cpu.wake)) =
      some (0x21, 0x00, some 4) := by decide

/-! ### One step: control and system -/

theorem test_VC2_jp_not_taken :
    ran [0xC2, 0x50, 0x01]
      (fun s => onCpu (fun u => { u with f := 0x80 }) s)
      psw =
      some (0xC003, 0x0000, some 3) := by decide

theorem test_VC3_jp_taken :
    ran [0xCA, 0x50, 0x01]
      (fun s => onCpu (fun u => { u with f := 0x80 }) s)
      psw =
      some (0x0150, 0x0000, some 4) := by decide

theorem test_VC4_jr_back : ran [0x18, 0xFE] id psw =
  some (0xC000, 0x0000, some 3) := by decide

theorem test_VC6_jr_taken : ran [0x30, 0x80] id psw =
  some (0xBF82, 0x0000, some 3) := by decide

theorem test_VC8_call :
    ran [0xCD, 0x00, 0x02]
      (fun s => onCpu (fun u => { u with sp := 0xD000 }) s)
      (fun t => (psw t, t.busRead 0xCFFE, t.busRead 0xCFFF)) =
      some ((0x0200, 0xCFFE, some 6), 0x03, 0xC0) := by decide

theorem test_VC9_call_not_taken :
    ran [0xD4, 0x00, 0x02]
      (fun s => onCpu (fun u => { u with sp := 0xD000, f := 0x10 }) s)
      psw =
      some (0xC003, 0xD000, some 3) := by decide

theorem test_VC12_ret_taken :
    ran [0xC0]
      (fun s => onCpu (fun u => { u with sp := 0xCFFE }) (State.busWrite (State.busWrite s 0xCFFE 0x34) 0xCFFF 0x12))
      psw =
      some (0x1234, 0xD000, some 5) := by decide

theorem test_VC14_reti :
    ran [0xD9]
      (fun s => onCpu (fun u => { u with sp := 0xCFFE }) (State.busWrite (State.busWrite s 0xCFFE 0x34) 0xCFFF 0x12))
      (fun t => (psw t, t.cpu.ime)) =
      some ((0x1234, 0xD000, some 4), true) := by decide

theorem test_VC15_rst :
    ran [0xFF]
      (fun s => onCpu (fun u => { u with sp := 0xD000 }) s)
      (fun t => (psw t, t.top16)) =
      some ((0x0038, 0xCFFE, some 4), 0xC001) := by decide

theorem test_VC16_jp_hl :
    ran [0xE9]
      (fun s => onCpu (fun u => { u with h := 0x80, l := 0x00 }) s)
      psw =
      some (0x8000, 0x0000, some 1) := by decide

theorem test_VS2_di :
    ran [0xF3]
      (fun s => onCpu (fun u => { u with ime := true }) s)
      (fun t => (t.cpu.ime, t.cpu.wake)) =
      some (false, some 1) := by decide

theorem test_VS3_ei : ran [0xFB] id (fun t => (t.cpu.ime, t.cpu.wake)) =
  some (true, some 1) := by decide

theorem test_VS4_halt : ran [0x76] id (fun t => (t.cpu.pc, t.cpu.wake)) =
  some (0xC001, none) := by decide

theorem test_VS5_stop :
    ran [0x10, 0x00]
      (fun s => onCpu (fun u => { u with a := 0x11 }) s)
      (fun t => (t.fault, psw t, t.cycle)) =
      some (some (.stopUnsupported 0 0xC000 0x10), (0xC000, 0x0000, some 0), 1) := by decide

theorem test_VS6_illegal :
    ran [0xD3]
      (fun s => onCpu (fun u => { u with a := 0x11 }) s)
      (fun t => (t.fault, psw t, t.cycle)) =
      some (some (.illegalOpcode 0 0xC000 0xD3), (0xC000, 0x0000, some 0), 1) := by decide

theorem test_VI1_service :
    ran [0x00]
      (fun s => onCpu (fun u => { u with ie := 0x1F, iflag := 0x1F, ime := true, sp := 0xD000 }) s)
      (fun t => (psw t, t.cpu.iflag, t.cpu.ime, t.top16)) =
      some ((0x0040, 0xCFFE, some 5), 0x1E, false, 0xC000) := by decide

theorem test_VI2_no_service :
    ran [0x00]
      (fun s => onCpu (fun u => { u with ie := 0x1F, iflag := 0x1F, sp := 0xD000 }) s)
      (fun t => (t.cpu.pc, t.cpu.iflag)) =
      some (0xC001, 0x1F) := by decide

theorem test_VI3_push_into_ie :
    ran [0x00]
      (fun s => onCpu (fun u => { u with ie := 0x04, iflag := 0x04, ime := true }) s)
      (fun t => (t.cpu.pc, t.cpu.sp, t.cpu.ie)) =
      some (0x0050, 0xFFFE, 0x00) := by decide

/-- The wake-up of VI4. -/
theorem test_VI4_wake_without_service :
    ran [0x00]
      (fun s => onCpu (fun u => { u with ie := 0x04, iflag := 0x04, wake := none }) s)
      (fun t => (t.cpu.pc, t.cpu.iflag, t.cpu.wake)) =
      some (0xC001, 0x04, some 1) := by decide

/-! ### Devices -/

theorem test_VT5_overflow :
    (let t := timerStep (onTimer
          (fun t => { t with tac := 0x05, tima := 0xFF, tma := 0xAB, divc := 0x000C }) State.reset);
        (t.timer.divc, t.timer.tima, t.cpu.iflag)) = (0x0010, 0xAB, 0x04) := by decide

theorem test_VT7_div_write :
    (let t := (onTimer (fun t => { t with tac := 0x04, divc := 0x0200 }) State.reset).busWrite
          0xFF04 0x55;
        (t.timer.divc, t.timer.tima)) = (0x0000, 0x01) := by decide

theorem test_VT12_rising_edge :
    ((onTimer (fun t => { t with tac := 0x04, divc := 0x0008 }) State.reset).busWrite
          0xFF07 0x05).timer.tima = 0x00 := by decide

theorem test_VD5_stat_then_lyc :
    (let t := (State.reset.busWrite 0xFF41 0x40).busWrite 0xFF45 0x00;
        (t.lcd.stat, t.cpu.iflag)) = (0x44, 0x02) := by decide

theorem test_VD13_stat_write :
    ((onLcd (fun v => { v with stat := 0x06 }) State.reset).busWrite 0xFF41 0xFF).lcd.stat = 0xFE := by decide

theorem test_VD1_power_on :
    (let t := State.reset.busWrite 0xFF40 0x91;
        (t.lcd.phase, t.lcd.next)) = (.starting, some 19) := by decide

theorem test_VD11_power_off :
    (let t := (onLcd (fun v => { v with
            lcdc := 0x91, stat := 0x43, ly := 5, phase := .mode3, next := some 5 }) State.reset).busWrite
          0xFF40 0x00;
        (t.lcd.phase, t.lcd.next, t.lcd.ly, t.lcd.stat, t.cpu.iflag)) =
      (.off, none, 0x00, 0x44, 0x02) := by decide

theorem test_VM1_dma_byte :
    (let s := (onLcd (fun v => { v with
            dmaActive := true, dmaSrc := 0xC1, dmaIdx := 159 }) State.reset).busWrite 0xC19F 0xC5;
        let t := dmaStep s;
        (t.lcd.oam.read 159, t.lcd.dmaActive, t.lcd.dmaIdx)) = (0xC5, false, 160) := by decide

theorem test_W4_joypad :
    (let s1 := State.reset.busWrite 0xFF00 0xCF;
        let s2 := keyPressed .start s1;
        let s3 := keyReleased .start s2;
        (s1.busRead 0xFF00, s2.busRead 0xFF00, s3.busRead 0xFF00, s3.cpu.iflag)) =
      (0xCF, 0xC7, 0xCF, 0x10) := by decide

/-- As VJ2, then VJ6 with RIGHT alone pressed. -/
theorem test_VJ6_none_selected :
    (let s := keyPressed .right (State.reset.busWrite 0xFF00 0x20);
        (s.busRead 0xFF00, (s.busWrite 0xFF00 0x30).busRead 0xFF00)) = (0xEE, 0xFE) := by decide

theorem test_VH2_cycle_order :
    (runUntil 10 { State.reset with cycle := 16436 }) =
      { State.reset with cycle := 16436, fault := some (.cycleOrder 16436 10) } := rfl

/-! ### Rendering -/

/-- The common start of VR1 to VR20: tile 1 row 0 has the colours 0, 1, 2, 3, 0, 1, 2, 3, tile 2 row 0
colour 1, tile 3 row 0 colour 2, and the first entry of the map is tile 1. -/
def scene (lcdc : Byte) (oam : Memory) : Lcd :=
  { Lcd.reset with
    lcdc := lcdc, bgp := 0xE4, obp0 := 0xE4, obp1 := 0xE4, oam := oam
    vram := [(0x10, 0x55), (0x11, 0x33), (0x20, 0xFF), (0x31, 0xFF), (0x1800, 0x01)] }

/-- The first colours of a rendered line. -/
def shades (n : Nat) (v : Lcd) (y : Nat) : List (BitVec 2) := ((v.renderLine y).take n).map Pixel.color

theorem test_VR1_background : shades 9 (scene 0x91 []) 0 =
  [0, 1, 2, 3, 0, 1, 2, 3, 0] := by decide +kernel

theorem test_VR2_scx :
    shades 8 { scene 0x91 [] with scx := 2 } 0 =
      [2, 3, 0, 1, 2, 3, 0, 0] := by decide +kernel

theorem test_VR4_palette :
    shades 9 { scene 0x91 [] with bgp := 0x1B } 0 =
      [3, 2, 1, 0, 3, 2, 1, 0, 3] := by decide +kernel

theorem test_VR9_priority :
    shades 13 (scene 0x93 [(0, 16), (1, 8), (2, 2), (4, 16), (5, 12), (6, 3)]) 0 =
      [1, 1, 1, 1, 1, 1, 1, 1, 2, 2, 2, 2, 0] := by decide +kernel

theorem test_VR12_behind :
    shades 8 (scene 0x93 [(0, 16), (1, 8), (2, 2), (3, 0x80)]) 0 =
      [1, 1, 2, 3, 1, 1, 2, 3] := by decide +kernel

theorem test_VR16_left_edge :
    shades 8 (scene 0x93 [(0, 16), (1, 4), (2, 2)]) 0 =
      [1, 1, 1, 1, 0, 1, 2, 3] := by decide +kernel

theorem test_VR22_window :
    shades 9 { scene 0xF1 [] with vram := [(0x10, 0x55), (0x11, 0x33), (0x1C00, 0x01)] } 0 =
      [0, 1, 2, 3, 0, 1, 2, 3, 0] := by decide +kernel

/-! ### Witnesses -/

/-- A state with an interrupt pending, enabled and due: the source's bit alone, IME set. -/
def pendingAt (bit : BitVec 5) : State :=
  onCpu (fun u => { u with ie := 0x1F, iflag := bit, ime := true, sp := 0xD000 }) (code [0x00])

/-- The reset state with its LCD controller in a phase, due in this tick, STAT showing the phase. -/
def phaseAt (p : Phase) (ly : Byte) : State :=
  onLcd (fun v => { v with
    lcdc := if p = .off then 0x00 else 0x91
    phase := p, ly := ly, stat := statWithMode 0x78 p.mode
    next := if p = .off then none else some 0
    frameBuf := (p.linesBuilt ly.toNat).map fun n => List.replicate n (emptyLine 160) }) State.reset

/-- A step answers a next state. -/
def stepsFrom (s : State) : Bool := (seen (fun _ => ()) (step s)).isSome

theorem wit_ResetGivesTheTabledValues :
    (0xFF40 ≤ (0xFF40 : Word).toNat ∧ (0xFF40 : Word).toNat ≤ 0xFF4B) ∧
      (0xFF40 ≤ (0xFF4B : Word).toNat ∧ (0xFF4B : Word).toNat ≤ 0xFF4B) ∧
      State.reset.busRead 0xFF40 = 0 ∧ State.reset.busRead 0xFF4B = 0 := by decide

/-- A state with a different byte behind each end of each memory's window. -/
def mapped : State :=
  { State.reset with
    cpu := { State.reset.cpu with hram := [(0, 0x0C), (126, 0x0D)] }
    bootRom := [(0, 0x01), (255, 0x02)]
    cartridge := [(0, 0x0E), (255, 0x0F), (256, 0x03), (32767, 0x04)]
    lcd := { Lcd.reset with vram := [(0, 0x05), (8191, 0x06)], oam := [(0, 0x0A), (159, 0x0B)] }
    wram := [(0, 0x07), (7679, 0x08), (8191, 0x09)] }

/-- The ends of every memory window, from the address map (R74). -/
theorem wit_BusReadsFollowTheAddressMap_memories :
    mapped.bootEn = true ∧
      [0x0000, 0x00FF, 0x0100, 0x7FFF, 0x8000, 0x9FFF, 0xC000, 0xDFFF, 0xE000, 0xFDFF, 0xFE00, 0xFE9F, 0xFF80,
        0xFFFE].map mapped.busRead =
      [0x01, 0x02, 0x03, 0x04, 0x05, 0x06, 0x07, 0x09, 0x07, 0x08, 0x0A, 0x0B, 0x0C, 0x0D] := by decide

theorem wit_BusReadsFollowTheAddressMap_overlay :
    { mapped with bootEn := false }.bootEn = false ∧
      [0x0000, 0x00FF].map (State.busRead { mapped with bootEn := false }) = [0x0E, 0x0F] := by decide

/-- The ends of every unmapped range (R83). -/
theorem wit_BusReadsFollowTheAddressMap_unmapped :
    [0xA000, 0xBFFF, 0xFEA0, 0xFEFF, 0xFF01, 0xFF03, 0xFF08, 0xFF0E,
        0xFF10, 0xFF3F, 0xFF4C, 0xFF7F].map mapped.busRead = List.replicate 12 0xFF := by decide

theorem wit_BusWritesReachTheOwningMemory :
    mapped.busWrite 0x7FFF 0x5A = mapped ∧ mapped.busWrite 0xFF51 0x5A = mapped ∧
      (mapped.busWrite 0x9FFF 0x5A).lcd.vram = [(0, 0x05), (8191, 0x5A)] ∧
      (mapped.busWrite 0xDFFF 0x5A).wram = [(0, 0x07), (7679, 0x08), (8191, 0x5A)] ∧
      (mapped.busWrite 0xFDFF 0x5A).busRead 0xDDFF = 0x5A ∧
      (mapped.busWrite 0xFE9F 0x00).lcd.oam = [(0, 0x0A)] ∧
      (mapped.busWrite 0xFFFE 0x5A).cpu.hram = [(0, 0x0C), (126, 0x5A)] ∧
      (mapped.busWrite 0xFF0F 0xFF).cpu.iflag = 0x1F ∧ (mapped.busWrite 0xFFFF 0xFF).cpu.ie = 0x1F ∧
      (mapped.busWrite 0xFF50 0x00).bootEn = false := 
    ⟨rfl, rfl, by decide, by decide, by decide, by decide, by decide, by decide, by decide, rfl⟩

theorem wit_BusReadsAfterABusWrite :
    (mapped.busWrite 0x8000 0x5A).busRead 0x8000 = 0x5A ∧
      (mapped.busWrite 0xFE9F 0x5A).busRead 0xFE9F = 0x5A ∧
      (mapped.busWrite 0xFFFE 0x5A).busRead 0xFFFE = 0x5A ∧
      touches 0xC000 0xC001 = false ∧ touches 0xDE00 0xFE00 = false ∧ touches 0xFF50 0x0100 = false ∧
      touches 0xC000 0xE000 = true ∧ touches 0xFF45 0xFF41 = true := by decide

theorem wit_EncodingADecodedInstructionGivesItsBytes :
    decode [0xFA, 0x34, 0xE1, 0x00] = .ok (.ld_a_atN16 0xE134, [0x00]) := by decide

theorem wit_TheFirstByteFixesTheLength :
    ([0xE1] : List Byte).length + 1 < lengthOf 0xFA ∧
      lengthOf 0xFA ≤ ([0x34, 0xE1] : List Byte).length + 1 ∧ lengthOf 0x76 ≤ ([] : List Byte).length + 1 := by decide

theorem wit_ElevenBytesAreNotInstructions :
    decode [0xFD] = .ok (.illegal_fd, []) ∧ Instr.illegal_fd ∈ illegalRows.map Prod.snd ∧
      decode [0x76] = .ok (.halt, []) ∧ Instr.halt ∉ illegalRows.map Prod.snd := by decide

theorem wit_StopAndIllegalBytesFault :
    (0xD3, Instr.illegal_d3) ∈ illegalRows ∧ (0xFD, Instr.illegal_fd) ∈ illegalRows := by decide

theorem wit_InstructionsLeaveOtherBytesAlone :
    let s := onCpu (fun u => { u with sp := 0xD000 }) State.reset;
      seen (fun t => (t.cpu.pc, t.busRead 0xCFFE, t.busRead 0xD000)) (exec (.call_n16 0x1234) s) =
        some (0x1234, 0x03, 0x00) ∧
      storedBytes (.call_n16 0x1234) s = [0xCFFE, 0xCFFF] ∧
      ((storedBytes (.call_n16 0x1234) s).all fun w => !touches w 0xD000) = true ∧
      storedBytes (.cp_a_n8 0x01) s = [] := by decide

theorem wit_InstructionsLeaveOtherRegistersAlone :
    let s := onCpu (fun u => { u with b := 0x0F, f := 0x10 }) State.reset;
      seen (fun t => (t.cpu.b, t.cpu.f)) (exec .inc_b s) = some (0x10, 0x30) ∧
      Reg8.c ∉ destRegs .inc_b ∧ flagMask .inc_b = 0xE0 ∧ (flagMask .inc_b).getLsbD 4 = false ∧
      writesSP .inc_b = false ∧ storedBytes .inc_b s = [] ∧ flagMask .nop = 0 ∧ writesSP .push_bc = true := by decide

theorem wit_AStepRunsTheDecodedInstruction :
    let s := code [0x06, 0x08];
      let d := wakeUp (deviceSteps s);
      s.fault = none ∧ d.cpu.wake = some s.cycle ∧ d.serviceable = none ∧
      decode [d.busRead d.cpu.pc, d.busRead (d.cpu.pc + 1), d.busRead (d.cpu.pc + 2)] =
        .ok (.ld_b_n8 0x08, [0x00]) := by decide +kernel

theorem wit_AStepServicesTheLowestPendingInterrupt_first :
    let s := pendingAt 0b11111;
      let d := wakeUp (deviceSteps s);
      s.fault = none ∧ d.cpu.wake = some s.cycle ∧ d.cpu.ime = true ∧
      (d.cpu.ie &&& d.cpu.iflag).getLsbD IntSource.vblank.index = true ∧
      ∀ j < IntSource.vblank.index, (d.cpu.ie &&& d.cpu.iflag).getLsbD j = false := by decide

theorem wit_AStepServicesTheLowestPendingInterrupt_last :
    let s := pendingAt 0b10000;
      let d := wakeUp (deviceSteps s);
      s.fault = none ∧ d.cpu.wake = some s.cycle ∧ d.cpu.ime = true ∧
      (d.cpu.ie &&& d.cpu.iflag).getLsbD IntSource.joypad.index = true ∧
      ∀ j < IntSource.joypad.index, (d.cpu.ie &&& d.cpu.iflag).getLsbD j = false := by decide

theorem wit_HaltAndWakeUp_halted :
    let s := onCpu (fun u => { u with wake := none, ie := 0x01 }) State.reset;
      let d := deviceSteps s;
      s.fault = none ∧ d.cpu.wake = none ∧ d.cpu.ie &&& d.cpu.iflag = 0 := by decide

theorem wit_HaltAndWakeUp_woken :
    let s := onCpu (fun u => { u with wake := none, ie := 0x01, iflag := 0x01 }) State.reset;
      let d := deviceSteps s;
      s.fault = none ∧ d.cpu.wake = none ∧ d.cpu.ie &&& d.cpu.iflag ≠ 0 := by decide

theorem wit_HaltAndWakeUp_waiting :
    let s := onCpu (fun u => { u with wake := some 1 }) State.reset;
      (deviceSteps s).cpu.wake = some 1 ∧ 1 ≠ s.cycle ∧ (deviceSteps State.reset).cpu.wake = some 0 := by decide

theorem wit_AMachineWithoutAFaultAlwaysSteps :
    State.reset.fault = none ∧
      { State.reset with fault := some (.cycleOrder 1 0) }.fault = some (.cycleOrder 1 0) := by decide

theorem wit_OnlyStopAndIllegalBytesFaultAStep_stop :
    ran [0x10, 0x00] id State.fault = some (some (.stopUnsupported 0 0xC000 0x10)) ∧
      fetchInstr (wakeUp (deviceSteps (code [0x10, 0x00]))) = .stop 0x00 := by decide

theorem wit_OnlyStopAndIllegalBytesFaultAStep_illegal :
    ran [0xFD] id State.fault = some (some (.illegalOpcode 0 0xC000 0xFD)) ∧
      fetchInstr (wakeUp (deviceSteps (code [0xFD]))) = .illegal_fd := by decide

theorem wit_ImagesNeverChangeAndTheBootRomStaysDisabled :
    stepsFrom { State.reset with bootEn := false } = true ∧
      ran [0xE0, 0x50] id State.bootEn = some false := by decide

theorem wit_TimaRisesOncePerPeriod :
    let s := onTimer (fun t => { t with tac := 0x05 }) State.reset;
      s.timer.divc = 0 ∧ s.timer.tima = 0 ∧ s.timer.tac.getLsbD 2 = true ∧
      2 ^ (tapOf s.timer.tac + 1) / 4 = 4 ∧ 0 / 4 < 256 ∧ 1023 / 4 < 256 := by decide

theorem wit_WritesOfTheLcdRegisters :
    ((0x91 : Byte).getLsbD 7 = true ∧ State.reset.lcd.phase = .off) ∧
      ((0x11 : Byte).getLsbD 7 = false ∧ (phaseAt .mode3 5).lcd.phase ≠ .off) ∧
      ((0x11 : Byte).getLsbD 7 = true ↔ State.reset.lcd.phase ≠ .off) ∧
      ((0x80 : Byte).getLsbD 7 = true ↔ (phaseAt .mode3 5).lcd.phase ≠ .off) ∧ (8191 < 8192 ∧ 159 < 160) := by decide

theorem wit_TheModeStateMachine_premises :
    ∀ p ∈ [Phase.starting, .mode2, .mode3, .mode0, .mode1],
      (phaseAt p 0).lcd.next = some (phaseAt p 0).cycle ∧
      (phaseAt p 0).lcd.stat.extractLsb' 0 2 = (phaseAt p 0).lcd.phase.mode ∧ (phaseAt p 0).lcd.phase = p := by decide

theorem wit_TheModeStateMachine_off :
    (phaseAt .off 0).lcd.next ≠ some (phaseAt .off 0).cycle ∧
      (onLcd (fun v => { v with next := some 0 }) (phaseAt .off 0)).lcd.phase = .off := by decide

theorem wit_TheModeStateMachine_mode0 :
    (phaseAt .mode0 142).lcd.ly.toNat < 143 ∧ 143 ≤ (phaseAt .mode0 143).lcd.ly.toNat ∧
      (phaseAt .mode0 143).lcd.frameBuf = some (List.replicate 144 (emptyLine 160)) := ⟨by decide, by decide, rfl⟩

theorem wit_TheModeStateMachine_mode1 :
    (phaseAt .mode1 152).lcd.ly.toNat < 153 ∧ 153 ≤ (phaseAt .mode1 153).lcd.ly.toNat := by decide

theorem wit_ADmaCopiesOneByteAStepFor160Steps :
    let s := State.reset.startDma 0xC1;
      s.lcd.dmaActive = true ∧ s.lcd.dmaIdx = 0 ∧ s.lcd.dmaIdx < 160 ∧ 0 < 160 ∧ 159 < 160 ∧
      State.reset.lcd.dmaActive = false := by decide

theorem wit_LineOperationsActOnPixels :
    (emptyLine 4).length = (emptyLine 4).length ∧ [true, false, true, false].length = (emptyLine 4).length ∧
      3 < (emptyLine 4).length := by decide

theorem wit_BackgroundAndWindowPixels :
    let v := { scene 0xF1 [] with wx := 87 };
      0 < 160 ∧ 159 < 160 ∧ v.lcdc.getLsbD 5 = true ∧ v.wy.toNat ≤ 0 ∧ v.wx.toNat - 7 < 160 ∧
      v.wx.toNat - 7 ≤ 80 ∧ ¬(v.wx.toNat - 7 ≤ 79) ∧ v.lcdc.getLsbD 4 = true ∧
      (scene 0x81 []).lcdc.getLsbD 4 = false ∧ (scene 0x81 []).lcdc.getLsbD 5 = false := by decide

/-- VR10, and the ends of the eight lines of a sprite (R575). -/
theorem wit_SpriteSelectionAndPriority :
    let v := scene 0x93 [(0, 16), (1, 12), (2, 3), (4, 16), (5, 8), (6, 2)];
      v.spriteOnLine 0 0 = true ∧ v.spriteOnLine 7 0 = true ∧ v.spriteOnLine 8 0 = false ∧
      v.selectedSprites 0 = [0, 1] ∧ v.spritesByPriority 0 = [1, 0] := by decide +kernel

theorem wit_SpritePixels :
    let v := scene 0x93 [(0, 16), (1, 8), (2, 2)];
      v.spriteOnLine 0 0 = true ∧ ((0 : Nat) : Int) = ((v.oam.read 1).toNat - 8 : Int) + (0 : Nat) ∧
      ((7 : Nat) : Int) = ((v.oam.read 1).toNat - 8 : Int) + (7 : Nat) ∧
      ((v.oam.read 1).toNat - 8 : Int) + 8 ≤ (8 : Nat) := by decide

theorem wit_SpritesAndCompositionOfALine : 0 < 160 ∧ 159 < 160 := by decide

theorem wit_KeyEventsAndWritesOfP1 :
    [Key.right, .left, .up, .down, .a, .b, .select, .start][0]? = some .right ∧
      [Key.right, .left, .up, .down, .a, .b, .select, .start][7]? = some .start := by decide

theorem wit_RunUntilProcessesTheCyclesBeforeItsBound :
    let s := { code [0x00] with cycle := 1 };
      let f : State := { s with fault := some (.cycleOrder 1 0) };
      (0 < s.cycle ∧ s.fault = none) ∧ (s.cycle < 2 ∧ stepsFrom s = true) ∧ (s.cycle ≤ 1 ∧ 1 ≤ 2) ∧
      (runUntil 2 s).fault = none ∧ (f.cycle ≤ 1 ∧ f.fault = some (.cycleOrder 1 0)) ∧ 0 < f.cycle := by decide

/-- The raise of R601 sets the fault state of a faulted machine too (R518). -/
theorem test_cycle_order_after_a_fault :
    (runUntil 2 { State.reset with cycle := 5, fault := some (.stopUnsupported 4 0 0x10) }).fault =
      some (.cycleOrder 5 2) := by decide

theorem wit_ResetMeetsTheInvariant :
    Memory.ok [(0, 0x31), (255, 0x01)] 256 = true ∧ Memory.ok [(32767, 0x01)] 32768 = true := by decide

theorem reset_canonical : State.reset.Canonical := by constructor <;> decide

theorem reset_legal : State.reset.Legal := by
  refine ⟨by decide, fun _ w h => ?_, by decide, by decide, by decide⟩
  cases h
  exact Nat.le_refl 0

theorem reset_lcd : State.reset.LcdConsistent where
  scheduled := by decide
  clock := fun _ h => nomatch h
  power := by decide
  mode := by decide
  line := by decide
  frame := rfl
  width := fun _ h => nomatch h
  image := ⟨List.length_replicate, fun _ h => List.eq_of_mem_replicate h ▸ List.length_replicate⟩

theorem wit_StepsKeepMemoriesCanonical :
    State.reset.Canonical ∧ State.reset.Legal ∧ stepsFrom State.reset = true :=
  ⟨reset_canonical, reset_legal, by decide⟩

theorem wit_StepsKeepRegistersLegal : State.reset.Legal ∧ stepsFrom State.reset = true :=
  ⟨reset_legal, by decide⟩

theorem wit_StepsKeepTheLcdConsistent : State.reset.LcdConsistent ∧ stepsFrom State.reset = true :=
  ⟨reset_lcd, by decide⟩

theorem wit_EveryReachableStateMeetsTheInvariant : Reachable State.reset :=
  .launched .boot [] [] (by decide) (by decide)

/-! ### An instruction word placed where the next step fetches -/

theorem test_withFetchWord_ld_b :
    seen (fun t => (t.cpu.b, t.cpu.pc, t.cpu.wake)) (step (State.reset.withFetchWord 16 0x0806)) =
      some (0x08, 0x0002, some 2) := by decide

theorem test_withFetchWord_swap :
    seen (fun t => (t.cpu.a, t.cpu.wake))
        (step ((onCpu (fun u => { u with a := 0x12 }) State.reset).withFetchWord 16 0xCB37)) = some (0x21, some 2) := by decide

end Sys2Proof.Tests
end

section
/-! PROOFS. Loads, stores and stack transfers (40_loads.md; O6, O12 to O17). Each form of operands has its
encoding and its shared meaning as lemmas, by cases on the operands; the statements follow from these and
from three facts about addresses: the slots of a push, the high page, and a step of -1. -/

namespace Sys2Proof.Machine

/-! ### The encoding of a form, by its fields (R122 to R124) -/

theorem encode_ldRegReg (r r' : Reg8) :
    encode (.ldRegReg r r') = [opByte 0b01 r.code r'.code] := by
  cases r <;> cases r' <;> rfl

theorem encode_ldRegImm (r : Reg8) (n : Byte) :
    encode (.ldRegImm r n) = [opByte 0b00 r.code 0b110, n] := by
  cases r <;> rfl

theorem encode_ldRegAtHL (r : Reg8) : encode (.ldRegAtHL r) = [opByte 0b01 r.code 0b110] := by
  cases r <;> rfl

theorem encode_ldAtHLReg (r : Reg8) : encode (.ldAtHLReg r) = [opByte 0b01 0b110 r.code] := by
  cases r <;> rfl

theorem encode_ldPairImm (p : Pair16) (nn : Word) :
    encode (.ldPairImm p nn) = [opBytePQ 0b00 p.code 0b0 0b001, immLo nn, immHi nn] := by
  cases p <;> rfl

theorem encode_push (p : StackPair) : encode (.push p) = [opBytePQ 0b11 p.code 0b0 0b101] := by
  cases p <;> rfl

theorem encode_pop (p : StackPair) : encode (.pop p) = [opBytePQ 0b11 p.code 0b0 0b001] := by
  cases p <;> rfl

/-! ### The meaning of a form: every row of it is the shared meaning at its operands -/

theorem exec_ldRegReg (r r' : Reg8) (s : State) :
    exec (.ldRegReg r r') s = ldReg r (.reg r') 1 1 s := by
  cases r <;> cases r' <;> rfl

theorem exec_ldRegImm (r : Reg8) (n : Byte) (s : State) :
    exec (.ldRegImm r n) s = ldReg r (.imm n) 2 2 s := by
  cases r <;> rfl

theorem exec_ldRegAtHL (r : Reg8) (s : State) :
    exec (.ldRegAtHL r) s = ldReg r .atHL 1 2 s := by
  cases r <;> rfl

theorem exec_ldAtHLReg (r : Reg8) (s : State) :
    exec (.ldAtHLReg r) s = ldStore s.cpu.hl (s.cpu.reg r) 1 2 s := by
  cases r <;> rfl

theorem exec_ldPairImm (p : Pair16) (nn : Word) (s : State) :
    exec (.ldPairImm p nn) s = ldPair p nn s := by
  cases p <;> rfl

theorem exec_push (p : StackPair) (s : State) : exec (.push p) s = pushPair p s := by
  cases p <;> rfl

theorem exec_pop (p : StackPair) (s : State) : exec (.pop p) s = popPair p s := by
  cases p <;> rfl

/-! ### Addresses -/

/-- The second slot of a push is the address just below the old SP (R200), also where SP - 2 wraps. -/
theorem sub_two_add_one (sp : Word) : sp - 2 + 1 = sp - 1 := by bv_omega

/-- Push16 as its two bus writes, in order (R200). -/
theorem push16_eq_busWrite_busWrite (s : State) (v : Word) :
    s.push16 v = ((s.setSP (s.cpu.sp - 2)).busWrite (s.cpu.sp - 2) (loByte v)).busWrite
      (s.cpu.sp - 1) (hiByte v) := by
  rw [← sub_two_add_one]
  rfl

/-- The high page is the addresses whose high byte is 0xFF (R128): adding the offset carries nothing. -/
theorem highPage_eq_append (n : Byte) : highPage n = 0xFF#8 ++ n := by
  apply BitVec.eq_of_toNat_eq
  have hn := n.isLt
  have happ : (0xFF#8 ++ n).toNat = 255 * 256 + n.toNat := word16_toNat 0xFF n
  have hbase : (0xFF00 : Word).toNat = 0xFF00 := rfl
  rw [happ, highPage, zext16, BitVec.toNat_add, BitVec.toNat_setWidth, hbase]
  omega

/-- A store in the high page (R214, R216). -/
theorem ldStore_highPage (n v : Byte) (len cycles : Nat) (s : State) :
    ldStore (highPage n) v len cycles s =
      .next ((s.busWrite (0xFF#8 ++ n) v).retire (s.nextPC len) cycles) := by
  rw [ldStore, highPage_eq_append]

/-- A load of A from the high page (R213, R215). -/
theorem ldAFrom_highPage (n : Byte) (len cycles : Nat) (s : State) :
    ldAFrom (highPage n) len cycles s =
      .next ((s.setReg .a (s.busRead (0xFF#8 ++ n))).retire (s.nextPC len) cycles) := by
  rw [ldAFrom, highPage_eq_append]

/-- The step of -1 takes 1 from HL (R218). -/
theorem ldAStepHL_neg_one (s : State) :
    ldAStepHL (-1) s =
      .next (((s.setReg .a (s.busRead s.cpu.hl)).setHL (s.cpu.hl - 1)).retire (s.nextPC 1) 2) := by
  rw [ldAStepHL, sub_eq_add_neg]

/-- The step of -1 takes 1 from HL (R220). -/
theorem ldStepHLA_neg_one (s : State) :
    ldStepHLA (-1) s =
      .next (((s.busWrite s.cpu.hl s.cpu.a).setHL (s.cpu.hl - 1)).retire (s.nextPC 1) 2) := by
  rw [ldStepHLA, sub_eq_add_neg]

/-- PUSH as its two bus writes, in order (R224). -/
theorem pushPair_eq_busWrite_busWrite (p : StackPair) (s : State) :
    pushPair p s = .next ((((s.setSP (s.cpu.sp - 2)).busWrite (s.cpu.sp - 2)
      (loByte (s.cpu.stackPair p))).busWrite (s.cpu.sp - 1)
      (hiByte (s.cpu.stackPair p))).retire (s.nextPC 1) 4) := by
  rw [pushPair, push16_eq_busWrite_busWrite]

/-! ### The statements -/

/-- Settles O6: the second slot of a push is SP - 1; the rest is how the accesses are defined. -/
theorem stackAndWordAccessesAreLittleEndian : Obligations.StackAndWordAccessesAreLittleEndian :=
  ⟨push16_eq_busWrite_busWrite, fun _ => ⟨rfl, rfl⟩, fun _ _ _ => ⟨rfl, rfl⟩⟩

/-- Settles O12, from the encoding and the meaning of each form. -/
theorem loadsIntoARegister : Obligations.LoadsIntoARegister :=
  ⟨fun r r' s => ⟨encode_ldRegReg r r', exec_ldRegReg r r' s⟩,
    fun r n s => ⟨encode_ldRegImm r n, exec_ldRegImm r n s⟩,
    fun r s => ⟨encode_ldRegAtHL r, exec_ldRegAtHL r s⟩⟩

/-- Settles O13: LD (HL),r by its form; LD (HL),n8, LD (BC),A, LD (DE),A and LD (n16),A are single rows,
stores at the address as it stands; LDH (n8),A and LD (C),A store in the high page. -/
theorem storesOfOneByte : Obligations.StoresOfOneByte :=
  ⟨fun r s => ⟨encode_ldAtHLReg r, exec_ldAtHLReg r s⟩,
    fun _ _ => ⟨rfl, rfl⟩, fun _ => ⟨rfl, rfl⟩, fun _ => ⟨rfl, rfl⟩, fun _ _ => ⟨rfl, rfl⟩,
    fun n s => ⟨rfl, ldStore_highPage n s.cpu.a 2 3 s⟩,
    fun s => ⟨rfl, ldStore_highPage s.cpu.c s.cpu.a 1 2 s⟩⟩

/-- Settles O14: LD A,(BC), LD A,(DE) and LD A,(n16) are single rows, loads from the address as it stands;
LDH A,(n8) and LD A,(C) load from the high page. -/
theorem loadsOfTheAccumulator : Obligations.LoadsOfTheAccumulator :=
  ⟨fun _ => ⟨rfl, rfl⟩, fun _ => ⟨rfl, rfl⟩, fun _ _ => ⟨rfl, rfl⟩,
    fun n s => ⟨rfl, ldAFrom_highPage n 2 3 s⟩,
    fun s => ⟨rfl, ldAFrom_highPage s.cpu.c 1 2 s⟩⟩

/-- Settles O15: the rising forms are their definitions; the falling forms step HL by -1. -/
theorem loadsAndStoresThatStepHL : Obligations.LoadsAndStoresThatStepHL := fun s =>
  ⟨rfl, rfl, rfl, ldAStepHL_neg_one s, rfl, rfl, rfl, ldStepHLA_neg_one s⟩

/-- Settles O16, from the form of LD rr,n16 and the two single rows. -/
theorem sixteenBitLoads : Obligations.SixteenBitLoads :=
  ⟨fun p nn s => ⟨encode_ldPairImm p nn, exec_ldPairImm p nn s⟩, fun _ _ => ⟨rfl, rfl⟩,
    fun _ => ⟨rfl, rfl⟩⟩

/-- Settles O17, from the two forms; the slots of PUSH are SP - 2 and SP - 1. -/
theorem pushAndPop : Obligations.PushAndPop :=
  ⟨fun p s => ⟨encode_push p, (exec_push p s).trans (pushPair_eq_busWrite_busWrite p s)⟩,
    fun p s => ⟨encode_pop p, exec_pop p s⟩⟩

end Sys2Proof.Machine
end

section
/-! PROOFS. 8-bit arithmetic and logic (41_alu8.md; O18 to O23). First what each ALU function computes,
as integer formulas; then the encoding and the shared meaning of each form of operands; then the shared
meanings written out with the new F. The one frame fact needed is that writing an operand leaves F as it
was, also when a bus write reaches a device. -/

namespace Sys2Proof.Machine

/-! ### The ALU functions (R241 to R247) -/

/-- The value of a subtraction with borrow is the difference modulo 256, of any sign (R242). -/
theorem alu8Sub_v_toNat (l r : Byte) (b0 : Bool) :
    ((alu8Sub l r b0).v.toNat : Int) = ((l.toNat : Int) - r.toNat - b0.toNat) % 256 := by
  rw [alu8Sub, BitVec.toNat_ofInt]
  exact Int.toNat_of_nonneg (Int.emod_nonneg _ (by decide))

/-- Adding 1 takes Z and H off the old value (R246). -/
theorem alu8Add_one (v : Byte) :
    alu8Add v 1 false = { v := v + 1, z := v == 0xFF, n := false
                          h := decide (v.toNat % 16 = 0xF), c := v == 0xFF } := by
  have hv : BitVec.ofNat 8 (v.toNat + 1) = v + 1 := by bv_omega
  have hz : v + 1#8 = 0#8 ↔ v = 0xFF := by bv_omega
  have hh : v.toNat % 16 + 1 > 0xF ↔ v.toNat % 16 = 0xF := by omega
  have hc : v.toNat + 1 > 0xFF ↔ v = 0xFF := by bv_omega
  simp [alu8Add, hv, hz, hh, hc, beq_eq_decide]

/-- Subtracting 1 takes Z and H off the old value (R246). -/
theorem alu8Sub_one (v : Byte) :
    alu8Sub v 1 false = { v := v - 1, z := v == 0x01, n := true
                          h := decide (v.toNat % 16 = 0x0), c := v == 0x00 } := by
  have hv : BitVec.ofInt 8 ((v.toNat : Int) - 1) = v - 1#8 := by
    apply BitVec.eq_of_toNat_eq
    rw [BitVec.toNat_ofInt, BitVec.toNat_sub, BitVec.toNat_ofNat]
    omega
  have hz : v - 1#8 = 0#8 ↔ v = 0x01 := by bv_omega
  have hh : v.toNat % 16 < 1 ↔ v.toNat % 16 = 0x0 := by omega
  have hc : v.toNat < 1 ↔ v = 0x00 := by bv_omega
  simp [alu8Sub, hv, hz, hh, hc, beq_eq_decide]

/-- What bcdAdjust adds or takes away, by which digits it corrects (R247). -/
def bcdFix (fixH fixL : Bool) : Byte := (if fixH then 0x60 else 0) ||| (if fixL then 0x06 else 0)

/-- The corrections of the two digits share no bit, so they add up. -/
theorem bcdFix_toNat (fixH fixL : Bool) :
    ((bcdFix fixH fixL).toNat : Int) = 0x60 * fixH.toNat + 0x06 * fixL.toNat := by
  cases fixH <;> cases fixL <;> rfl

theorem bcdAdjust_v (v : Byte) (n h c : Bool) :
    let fixL := h || (!n && decide (v.toNat % 16 > 9))
    let fixH := c || (!n && decide (v.toNat > 0x99))
    (bcdAdjust v n h c).v = if n then v - bcdFix fixH fixL else v + bcdFix fixH fixL := rfl

/-- Taking away or adding on bytes is the same on integers, modulo 256. -/
theorem sub_or_add_toNat (n : Bool) (v fix : Byte) :
    ((if n then v - fix else v + fix).toNat : Int) =
      (if n then (v.toNat : Int) - fix.toNat else v.toNat + fix.toNat) % 256 := by
  cases n with
  | false => simp [BitVec.toNat_add]
  | true =>
    have hfix := fix.isLt
    simp only [if_true, BitVec.toNat_sub]
    omega

/-- The value of bcdAdjust is the old one corrected by an integer, modulo 256 (R247). -/
theorem bcdAdjust_v_toNat (v : Byte) (n h c : Bool) :
    let fixL := h || (!n && decide (v.toNat % 16 > 9))
    let fixH := c || (!n && decide (v.toNat > 0x99))
    let fix : Int := 0x60 * fixH.toNat + 0x06 * fixL.toNat
    ((bcdAdjust v n h c).v.toNat : Int) = (if n then v.toNat - fix else v.toNat + fix) % 256 := by
  intro fixL fixH fix
  rw [bcdAdjust_v, sub_or_add_toNat, bcdFix_toNat]

/-! ### The encoding of a form, by its fields (R122, R123) -/

theorem encode_aluReg (op : AluOp) (r : Reg8) :
    encode (.aluReg op r) = [opByte 0b10 op.code r.code] := by
  cases op <;> cases r <;> rfl

theorem encode_aluImm (op : AluOp) (n : Byte) :
    encode (.aluImm op n) = [opByte 0b11 op.code 0b110, n] := by
  cases op <;> rfl

theorem encode_aluAtHL (op : AluOp) : encode (.aluAtHL op) = [opByte 0b10 op.code 0b110] := by
  cases op <;> rfl

theorem encode_incReg (r : Reg8) : encode (.incReg r) = [opByte 0b00 r.code 0b100] := by
  cases r <;> rfl

theorem encode_decReg (r : Reg8) : encode (.decReg r) = [opByte 0b00 r.code 0b101] := by
  cases r <;> rfl

/-! ### The meaning of a form: every row of it is the shared meaning at its operands -/

theorem exec_aluReg (op : AluOp) (r : Reg8) (s : State) :
    exec (.aluReg op r) s = aluA op (.reg r) 1 1 s := by
  cases op <;> cases r <;> rfl

theorem exec_aluImm (op : AluOp) (n : Byte) (s : State) :
    exec (.aluImm op n) s = aluA op (.imm n) 2 2 s := by
  cases op <;> rfl

theorem exec_aluAtHL (op : AluOp) (s : State) : exec (.aluAtHL op) s = aluA op .atHL 1 2 s := by
  cases op <;> rfl

theorem exec_incReg (r : Reg8) (s : State) : exec (.incReg r) s = incByte (.reg r) 1 s := by
  cases r <;> rfl

theorem exec_decReg (r : Reg8) (s : State) : exec (.decReg r) s = decByte (.reg r) 1 s := by
  cases r <;> rfl

/-! ### The shared meanings, with the new F written out -/

/-- All four flags come from the result, and CP is the one operation that does not write A. -/
theorem aluA_eq (op : AluOp) (src : Src8) (len cycles : Nat) (s : State) :
    aluA op src len cycles s =
      let res := aluCompute op s.cpu.a (src.read s) s.cpu.flagC
      .next (((if op = .cp then s else s.setReg .a res.v).setF
        (packFlags res.z res.n res.h res.c)).retire (s.nextPC len) cycles) := by
  cases op <;> rfl

/-- Writing an operand back keeps F, in a register and in memory. -/
@[simp] theorem Rmw8.write_f (o : Rmw8) (v : Byte) (s : State) : (o.write v s).cpu.f = s.cpu.f := by
  cases o with
  | reg r => exact Cpu.setReg_f s.cpu r v
  | atHL => exact (busWrite_change s s.cpu.hl v).f

/-- INC: C is the one flag it keeps (R274, R275). -/
theorem incByte_eq (o : Rmw8) (cycles : Nat) (s : State) :
    incByte o cycles s =
      let v := o.read s
      .next (((o.write (v + 1) s).setF (packFlags (v == 0xFF) false (decide (v.toNat % 16 = 0xF))
        s.cpu.flagC)).retire (s.nextPC 1) cycles) := by
  simp only [incByte, alu8Add_one, State.setFlags, newF, policyInc, Policy.choose, Cpu.flagC,
    Rmw8.write_f]

/-- DEC: C is the one flag it keeps (R276, R277). -/
theorem decByte_eq (o : Rmw8) (cycles : Nat) (s : State) :
    decByte o cycles s =
      let v := o.read s
      .next (((o.write (v - 1) s).setF (packFlags (v == 0x01) true (decide (v.toNat % 16 = 0x0))
        s.cpu.flagC)).retire (s.nextPC 1) cycles) := by
  simp only [decByte, alu8Sub_one, State.setFlags, newF, policyDec, Policy.choose, Cpu.flagC,
    Rmw8.write_f]

/-! ### The statements -/

/-- Settles O18: the values by the lemmas above, the flags as the functions define them. -/
theorem aluFunctionsComputeTheirFormulas : Obligations.AluFunctionsComputeTheirFormulas :=
  ⟨fun _ _ _ => ⟨BitVec.toNat_ofNat _ _, beq_iff_eq, rfl, decide_eq_true_iff, decide_eq_true_iff⟩,
    fun l r b0 => ⟨alu8Sub_v_toNat l r b0, beq_iff_eq, rfl, decide_eq_true_iff, decide_eq_true_iff⟩,
    fun _ _ => ⟨rfl, rfl, rfl⟩,
    fun v n h c => ⟨bcdAdjust_v_toNat v n h c, beq_iff_eq, rfl, rfl, rfl⟩,
    fun _ _ _ => ⟨rfl, rfl, rfl, rfl, rfl, rfl, rfl, rfl⟩⟩

/-- Settles O19, from the form with a register operand. -/
theorem aluOperationsWithARegister : Obligations.AluOperationsWithARegister := fun op r s =>
  ⟨encode_aluReg op r, (exec_aluReg op r s).trans (aluA_eq op (.reg r) 1 1 s)⟩

/-- Settles O20, from the form with an immediate operand. -/
theorem aluOperationsWithAnImmediate : Obligations.AluOperationsWithAnImmediate := fun op n s =>
  ⟨encode_aluImm op n, (exec_aluImm op n s).trans (aluA_eq op (.imm n) 2 2 s)⟩

/-- Settles O21, from the form with the operand (HL). -/
theorem aluOperationsWithMemory : Obligations.AluOperationsWithMemory := fun op s =>
  ⟨encode_aluAtHL op, (exec_aluAtHL op s).trans (aluA_eq op .atHL 1 2 s)⟩

/-- Settles O22, from the two register forms; INC (HL) and DEC (HL) are single rows. -/
theorem incrementAndDecrement : Obligations.IncrementAndDecrement :=
  ⟨fun r s =>
    ⟨encode_incReg r, (exec_incReg r s).trans (incByte_eq (.reg r) 1 s),
      encode_decReg r, (exec_decReg r s).trans (decByte_eq (.reg r) 1 s)⟩,
    fun s => ⟨rfl, incByte_eq .atHL 3 s, rfl, decByte_eq .atHL 3 s⟩⟩

/-- Settles O23: four single rows. DAA and CPL write A, which leaves the flags they keep. -/
theorem decimalAdjustComplementAndCarry : Obligations.DecimalAdjustComplementAndCarry := fun _ =>
  ⟨rfl, rfl, rfl, rfl, rfl, rfl, rfl, rfl⟩

end Sys2Proof.Machine
end

section
/-! PROOFS. 16-bit arithmetic (42_alu16.md; O24). First the carries of the two ALU functions, which are
defined byte by byte, read off the whole operands; then the encoding and the shared meaning of each form of
operands; then the shared meanings written out with the new F. -/

namespace Sys2Proof.Machine

/-! ### The ALU functions (R300, R301) -/

/-- The two carries of a 16-bit addition by bytes are the carries out of bits 11 and 15 of the words. -/
theorem add16H_eq (l r : Word) :
    add16H l r = { v := l + r, z := false, n := false
                   h := decide (l.toNat % 4096 + r.toNat % 4096 > 0xFFF)
                   c := decide (l.toNat + r.toNat > 0xFFFF) } := by
  have hlow : (decide (l.toNat % 256 + r.toNat % 256 > 0xFF)).toNat =
      (l.toNat % 256 + r.toNat % 256) / 256 := by
    rw [Bool.toNat, Bool.cond_decide]
    split <;> omega
  simp only [add16H, hlow, AluResult.mk.injEq, decide_eq_decide, true_and]
  constructor <;> omega

/-- Sign extension keeps the low byte. -/
theorem sext16_toNat_mod_256 (e : Byte) : (sext16 e).toNat % 256 = e.toNat := by
  have he := e.isLt
  rw [sext16, BitVec.toNat_signExtend, BitVec.toNat_setWidth]
  split <;> omega

/-- The carries of a displacement come from its byte as it stands, not from the sign bits above it. -/
theorem add16L_sext16 (l : Word) (e : Byte) :
    add16L l (sext16 e) = { v := l + sext16 e, z := false, n := false
                            h := decide (l.toNat % 16 + e.toNat % 16 > 0xF)
                            c := decide (l.toNat % 256 + e.toNat > 0xFF) } := by
  have hbyte := sext16_toNat_mod_256 e
  have hdigit : (sext16 e).toNat % 16 = e.toNat % 16 := by omega
  rw [add16L, hbyte, hdigit]

/-! ### The encoding of a form, by its fields (R122, R123) -/

theorem encode_incPair (p : Pair16) : encode (.incPair p) = [opBytePQ 0b00 p.code 0b0 0b011] := by
  cases p <;> rfl

theorem encode_decPair (p : Pair16) : encode (.decPair p) = [opBytePQ 0b00 p.code 0b1 0b011] := by
  cases p <;> rfl

theorem encode_addHLPair (p : Pair16) :
    encode (.addHLPair p) = [opBytePQ 0b00 p.code 0b1 0b001] := by
  cases p <;> rfl

/-! ### The meaning of a form: every row of it is the shared meaning at its operands -/

theorem exec_incPair (p : Pair16) (s : State) : exec (.incPair p) s = stepPair p 1 s := by
  cases p <;> rfl

theorem exec_decPair (p : Pair16) (s : State) : exec (.decPair p) s = stepPair p (-1) s := by
  cases p <;> rfl

theorem exec_addHLPair (p : Pair16) (s : State) : exec (.addHLPair p) s = addToHL p s := by
  cases p <;> rfl

/-! ### The shared meanings, with the new F written out -/

/-- The step of -1 takes 1 from the pair (R303). -/
theorem stepPair_neg_one (p : Pair16) (s : State) :
    stepPair p (-1) s = .next (State.retire { s with cpu := s.cpu.setPair p (s.cpu.pair p - 1) }
      (s.nextPC 1) 2) := by
  rw [stepPair, sub_eq_add_neg]

/-- ADD HL,rr: Z is the one flag it keeps (R304). -/
theorem addToHL_eq (p : Pair16) (s : State) :
    addToHL p s =
      let hl := s.cpu.hl
      let x := s.cpu.pair p
      .next (((s.setHL (hl + x)).setF (packFlags s.cpu.flagZ false
        (decide (hl.toNat % 4096 + x.toNat % 4096 > 0xFFF))
        (decide (hl.toNat + x.toNat > 0xFFFF)))).retire (s.nextPC 1) 2) := by
  rw [addToHL, add16H_eq]
  rfl

/-- The F of the two SP forms: Z and N clear, H and C from the low byte of SP (R305, R306). -/
def spDisplacementF (sp : Word) (e : Byte) : Byte :=
  packFlags false false (decide (sp.toNat % 16 + e.toNat % 16 > 0xF))
    (decide (sp.toNat % 256 + e.toNat > 0xFF))

/-- ADD SP,e8 (R305). -/
theorem addToSP_eq (e : Byte) (s : State) :
    addToSP e s = .next (((s.setSP (s.cpu.sp + sext16 e)).setF
      (spDisplacementF s.cpu.sp e)).retire (s.nextPC 2) 4) := by
  rw [addToSP, add16L_sext16]
  rfl

/-- LD HL,SP+e8 (R306). -/
theorem ldHLFromSP_eq (e : Byte) (s : State) :
    ldHLFromSP e s = .next (((s.setHL (s.cpu.sp + sext16 e)).setF
      (spDisplacementF s.cpu.sp e)).retire (s.nextPC 2) 3) := by
  rw [ldHLFromSP, add16L_sext16]
  rfl

/-! ### The statement -/

/-- Settles O24, from the three forms over a pair; ADD SP,e8 and LD HL,SP+e8 are single rows. -/
theorem sixteenBitArithmetic : Obligations.SixteenBitArithmetic :=
  ⟨fun p s => ⟨encode_incPair p, exec_incPair p s,
      encode_decPair p, (exec_decPair p s).trans (stepPair_neg_one p s)⟩,
    fun p s => ⟨encode_addHLPair p, (exec_addHLPair p s).trans (addToHL_eq p s)⟩,
    fun e s => ⟨rfl, addToSP_eq e s, rfl, ldHLFromSP_eq e s⟩⟩

end Sys2Proof.Machine
end

section
/-! PROOFS. Rotates, shifts and bit operations (43_bitops.md; O25 to O29). First the values of the rotate,
shift and swap functions, bit by bit; then the encoding and the shared meaning of each form of operands, by
cases on the operation or the bit and on the operand; then the shared meanings written out with the new F. -/

namespace Sys2Proof.Machine

/-! ### The rotate, shift and swap functions (R320 to R325) -/

/-- The bit that leaves on the left comes back at place 0. -/
theorem rotateLeft_eq (v : Byte) : rotateLeft v = shiftResult (v.rotateLeft 1) (v.getLsbD 7) := by
  have hbit : (BitVec.ofBool (v.getLsbD 7)).setWidth 8 = v >>> 7 := by
    ext i hi
    interval_cases i <;> simp
  rw [rotateLeft, hbit]
  rfl

/-- The bit that leaves on the right comes back at place 7. -/
theorem rotateRight_eq (v : Byte) : rotateRight v = shiftResult (v.rotateRight 1) (v.getLsbD 0) := by
  have hbit : (BitVec.ofBool (v.getLsbD 0)).setWidth 8 <<< 7 = v <<< 7 := by
    ext i hi
    interval_cases i <;> simp
  rw [rotateRight, hbit]
  rfl

/-- The carry enters at place 0. -/
theorem rotateLeftThrough_eq (v : Byte) (cin : Bool) :
    rotateLeftThrough v cin =
      shiftResult ((v <<< 1) ||| (if cin then 0x01 else 0x00)) (v.getLsbD 7) := by
  cases cin <;> rfl

/-- The carry enters at place 7. -/
theorem rotateRightThrough_eq (v : Byte) (cin : Bool) :
    rotateRightThrough v cin =
      shiftResult ((v >>> 1) ||| (if cin then 0x80 else 0x00)) (v.getLsbD 0) := by
  cases cin <;> rfl

/-- Keeping bit 7 in place is the shift that copies the sign. -/
theorem shiftRightArithmetic_eq (v : Byte) :
    shiftRightArithmetic v = shiftResult (v.sshiftRight 1) (v.getLsbD 0) := by
  have hsign : (v >>> 1) ||| (v &&& 0x80) = v.sshiftRight 1 := by
    ext i hi
    interval_cases i <;> simp [BitVec.getElem_sshiftRight, BitVec.msb_eq_getLsbD_last]
  rw [shiftRightArithmetic, hsign]

/-- Exchanging the two nibbles is a rotate by four places. -/
theorem swapNibbles_eq (v : Byte) : swapNibbles v = shiftResult (v.rotateLeft 4) false := by
  have hnibbles : v.extractLsb' 0 4 ++ v.extractLsb' 4 4 = v.rotateLeft 4 := by
    ext i hi
    rw [BitVec.getElem_append]
    interval_cases i <;> simp
  exact congrArg (shiftResult · false) hnibbles

/-! ### The encoding of a form, by its fields (R122, R123, R129) -/

/-- A statement about a bit number is eight statements. -/
theorem bitNumber_cases {motive : BitVec 3 → Prop} (b0 : motive 0) (b1 : motive 1) (b2 : motive 2)
    (b3 : motive 3) (b4 : motive 4) (b5 : motive 5) (b6 : motive 6) (b7 : motive 7) (b : BitVec 3) :
    motive b := by
  obtain ⟨n, hn⟩ := b
  interval_cases n
  exacts [b0, b1, b2, b3, b4, b5, b6, b7]

theorem encode_rotReg (op : RotOp) (r : Reg8) :
    encode (.rotReg op r) = [0xCB, opByte 0b00 op.code r.code] := by
  cases op <;> cases r <;> rfl

theorem encode_rotAtHL (op : RotOp) :
    encode (.rotAtHL op) = [0xCB, opByte 0b00 op.code 0b110] := by
  cases op <;> rfl

theorem encode_bitReg (b : BitVec 3) (r : Reg8) :
    encode (.bitReg b r) = [0xCB, opByte 0b01 b r.code] := by
  cases b using bitNumber_cases <;> cases r <;> rfl

theorem encode_bitAtHL (b : BitVec 3) : encode (.bitAtHL b) = [0xCB, opByte 0b01 b 0b110] := by
  cases b using bitNumber_cases <;> rfl

theorem encode_resReg (b : BitVec 3) (r : Reg8) :
    encode (.resReg b r) = [0xCB, opByte 0b10 b r.code] := by
  cases b using bitNumber_cases <;> cases r <;> rfl

theorem encode_resAtHL (b : BitVec 3) : encode (.resAtHL b) = [0xCB, opByte 0b10 b 0b110] := by
  cases b using bitNumber_cases <;> rfl

theorem encode_setReg (b : BitVec 3) (r : Reg8) :
    encode (.setReg b r) = [0xCB, opByte 0b11 b r.code] := by
  cases b using bitNumber_cases <;> cases r <;> rfl

theorem encode_setAtHL (b : BitVec 3) : encode (.setAtHL b) = [0xCB, opByte 0b11 b 0b110] := by
  cases b using bitNumber_cases <;> rfl

/-! ### The meaning of a form: every row of it is the shared meaning at its operands -/

theorem exec_rotReg (op : RotOp) (r : Reg8) (s : State) :
    exec (.rotReg op r) s = rotateByte op (.reg r) 2 s := by
  cases op <;> cases r <;> rfl

theorem exec_rotAtHL (op : RotOp) (s : State) :
    exec (.rotAtHL op) s = rotateByte op .atHL 4 s := by
  cases op <;> rfl

theorem exec_bitReg (b : BitVec 3) (r : Reg8) (s : State) :
    exec (.bitReg b r) s = bitByte b.toNat (.reg r) 2 s := by
  cases b using bitNumber_cases <;> cases r <;> rfl

theorem exec_bitAtHL (b : BitVec 3) (s : State) :
    exec (.bitAtHL b) s = bitByte b.toNat .atHL 3 s := by
  cases b using bitNumber_cases <;> rfl

theorem exec_resReg (b : BitVec 3) (r : Reg8) (s : State) :
    exec (.resReg b r) s = resByte b.toNat (.reg r) 2 s := by
  cases b using bitNumber_cases <;> cases r <;> rfl

theorem exec_resAtHL (b : BitVec 3) (s : State) :
    exec (.resAtHL b) s = resByte b.toNat .atHL 4 s := by
  cases b using bitNumber_cases <;> rfl

theorem exec_setReg (b : BitVec 3) (r : Reg8) (s : State) :
    exec (.setReg b r) s = setByte b.toNat (.reg r) 2 s := by
  cases b using bitNumber_cases <;> cases r <;> rfl

theorem exec_setAtHL (b : BitVec 3) (s : State) :
    exec (.setAtHL b) s = setByte b.toNat .atHL 4 s := by
  cases b using bitNumber_cases <;> rfl

/-! ### The shared meanings, with the new F written out -/

/-- An accumulator rotate takes A and C from the result; Z is cleared whatever the value (R330 to R333). -/
theorem rotateA_of_shiftResult {op : RotOp} {s : State} {v : Byte} {out : Bool}
    (h : rotCompute op s.cpu.a s.cpu.flagC = shiftResult v out) :
    rotateA op s = .next (((s.setReg .a v).setF (packFlags false false false out)).retire
      (s.nextPC 1) 1) := by
  rw [rotateA, h]
  rfl

/-- A prefixed rotate, shift or SWAP takes Z and C from the result (R334 to R349). -/
theorem rotateByte_eq (op : RotOp) (o : Rmw8) (cycles : Nat) (s : State) :
    rotateByte op o cycles s =
      let res := rotCompute op (o.read s) s.cpu.flagC
      .next (((o.write res.v s).setF (packFlags res.z false false res.c)).retire
        (s.nextPC 2) cycles) := rfl

/-- BIT: C is the one flag it keeps, and the operand is not written back (R350, R351). -/
theorem bitByte_eq (b : Nat) (o : Rmw8) (cycles : Nat) (s : State) :
    bitByte b o cycles s =
      .next ((s.setF (packFlags (!(o.read s).getLsbD b) false true s.cpu.flagC)).retire
        (s.nextPC 2) cycles) := rfl

/-! ### The statements -/

/-- Settles O25, by the lemmas above; SLA and SRL are plain shifts by definition. -/
theorem shiftFunctionsComputeTheirFormulas : Obligations.ShiftFunctionsComputeTheirFormulas :=
  fun v cin => ⟨rotateLeft_eq v, rotateRight_eq v, rotateLeftThrough_eq v cin,
    rotateRightThrough_eq v cin, rfl, shiftRightArithmetic_eq v, swapNibbles_eq v, rfl⟩

/-- Settles O26: four single rows, each with the value and the ejected bit of its rotate function. -/
theorem accumulatorRotates : Obligations.AccumulatorRotates := fun s =>
  ⟨rfl, rotateA_of_shiftResult (rotateLeft_eq s.cpu.a),
    rfl, rotateA_of_shiftResult (rotateRight_eq s.cpu.a),
    rfl, rotateA_of_shiftResult (rotateLeftThrough_eq s.cpu.a s.cpu.flagC),
    rfl, rotateA_of_shiftResult (rotateRightThrough_eq s.cpu.a s.cpu.flagC)⟩

/-- Settles O27, from the form with a register operand. -/
theorem prefixedRotatesOfARegister : Obligations.PrefixedRotatesOfARegister := fun op r s =>
  ⟨encode_rotReg op r, (exec_rotReg op r s).trans (rotateByte_eq op (.reg r) 2 s)⟩

/-- Settles O28, from the form with the operand (HL). -/
theorem prefixedRotatesOfMemory : Obligations.PrefixedRotatesOfMemory := fun op s =>
  ⟨encode_rotAtHL op, (exec_rotAtHL op s).trans (rotateByte_eq op .atHL 4 s)⟩

/-- Settles O29, from the six forms; the shared meanings of RES and SET read as stated. -/
theorem bitTestResetAndSet : Obligations.BitTestResetAndSet :=
  ⟨fun b r s =>
    ⟨encode_bitReg b r, (exec_bitReg b r s).trans (bitByte_eq b.toNat (.reg r) 2 s),
      encode_resReg b r, exec_resReg b r s, encode_setReg b r, exec_setReg b r s⟩,
    fun b s =>
    ⟨encode_bitAtHL b, (exec_bitAtHL b s).trans (bitByte_eq b.toNat .atHL 3 s),
      encode_resAtHL b, exec_resAtHL b s, encode_setAtHL b, exec_setAtHL b s⟩⟩

end Sys2Proof.Machine
end

section
/-! PROOFS. Jumps, calls and returns (44_control.md; O30, O31). First the condition as a bit of F, so that a
conditional form answers one next state chosen by that bit; then the encoding and the shared meaning of each
form of operands, by cases on the condition or the RST target; then the conditional meanings written out. -/

namespace Sys2Proof.Machine

/-! ### Conditions (R125) -/

theorem condHolds_eq_conditionBit (cc : Cond) (u : Cpu) : condHolds cc u = conditionBit cc u.f := by
  cases cc <;> rfl

/-- A conditional form ends normally either way: the condition only chooses the next state (R136). -/
theorem ite_condHolds_next (cc : Cond) (s taken untaken : State) :
    (if condHolds cc s.cpu then .next taken else .next untaken : Result State) =
      .next (if conditionBit cc s.cpu.f then taken else untaken) := by
  rw [condHolds_eq_conditionBit]
  split <;> rfl

/-! ### The encoding of a form, by its fields (R122, R125, R127) -/

theorem encode_jpCond (cc : Cond) (nn : Word) :
    encode (.jpCond cc nn) = [opByte 0b11 (0b0#1 ++ cc.code) 0b010, immLo nn, immHi nn] := by
  cases cc <;> rfl

theorem encode_jrCond (cc : Cond) (e : Byte) :
    encode (.jrCond cc e) = [opByte 0b00 (0b1#1 ++ cc.code) 0b000, e] := by
  cases cc <;> rfl

theorem encode_callCond (cc : Cond) (nn : Word) :
    encode (.callCond cc nn) = [opByte 0b11 (0b0#1 ++ cc.code) 0b100, immLo nn, immHi nn] := by
  cases cc <;> rfl

theorem encode_retCond (cc : Cond) :
    encode (.retCond cc) = [opByte 0b11 (0b0#1 ++ cc.code) 0b000] := by
  cases cc <;> rfl

theorem encode_rst (y : BitVec 3) : encode (.rst y) = [opByte 0b11 y 0b111] := by
  cases y using bitNumber_cases <;> rfl

/-! ### The meaning of a form: every row of it is the shared meaning at its operands -/

theorem exec_jpCond (cc : Cond) (nn : Word) (s : State) :
    exec (.jpCond cc nn) s = jumpIf cc nn 3 3 1 s := by
  cases cc <;> rfl

theorem exec_jrCond (cc : Cond) (e : Byte) (s : State) :
    exec (.jrCond cc e) s = jumpIf cc (relTarget e s) 2 2 1 s := by
  cases cc <;> rfl

theorem exec_callCond (cc : Cond) (nn : Word) (s : State) :
    exec (.callCond cc nn) s = callIf cc nn 3 3 s := by
  cases cc <;> rfl

theorem exec_retCond (cc : Cond) (s : State) : exec (.retCond cc) s = returnIf cc 2 3 s := by
  cases cc <;> rfl

/-- The restart address is 8 times the field (R127). -/
theorem exec_rst (y : BitVec 3) (s : State) :
    exec (.rst y) s = callTo (BitVec.ofNat 16 (8 * y.toNat)) 1 4 s := by
  cases y using bitNumber_cases <;> rfl

/-! ### The conditional meanings, as one next state chosen by the bit of F -/

theorem jumpIf_eq (cc : Cond) (target : Word) (len cycles extra : Nat) (s : State) :
    jumpIf cc target len cycles extra s =
      .next (if conditionBit cc s.cpu.f then s.retire target (cycles + extra)
        else s.retire (s.nextPC len) cycles) :=
  ite_condHolds_next cc s _ _

theorem callIf_eq (cc : Cond) (target : Word) (cycles extra : Nat) (s : State) :
    callIf cc target cycles extra s =
      .next (if conditionBit cc s.cpu.f then
          (s.push16 (s.nextPC 3)).retire target (cycles + extra)
        else s.retire (s.nextPC 3) cycles) :=
  ite_condHolds_next cc s _ _

theorem returnIf_eq (cc : Cond) (cycles extra : Nat) (s : State) :
    returnIf cc cycles extra s =
      .next (if conditionBit cc s.cpu.f then s.dropped16.retire s.top16 (cycles + extra)
        else s.retire (s.nextPC 1) cycles) :=
  ite_condHolds_next cc s _ _

/-! ### The statements -/

/-- Settles O30: JP n16, JP HL and JR e8 are single rows, whose meanings read as stated; the conditional
jumps by their forms. -/
theorem jumpsAbsoluteAndRelative : Obligations.JumpsAbsoluteAndRelative :=
  ⟨fun _ _ => ⟨rfl, rfl⟩,
    fun cc nn s => ⟨encode_jpCond cc nn, (exec_jpCond cc nn s).trans (jumpIf_eq cc nn 3 3 1 s)⟩,
    fun _ => ⟨rfl, rfl⟩, fun _ _ => ⟨rfl, rfl⟩,
    fun cc e s =>
      ⟨encode_jrCond cc e, (exec_jrCond cc e s).trans (jumpIf_eq cc (relTarget e s) 2 2 1 s)⟩⟩

/-- Settles O31: CALL n16, RET and RETI are single rows, whose meanings read as stated; RST by its field,
the conditional call and return by their forms. -/
theorem callsAndReturns : Obligations.CallsAndReturns :=
  ⟨fun _ _ => ⟨rfl, rfl⟩,
    fun cc nn s => ⟨encode_callCond cc nn, (exec_callCond cc nn s).trans (callIf_eq cc nn 3 3 s)⟩,
    fun y s => ⟨encode_rst y, exec_rst y s⟩,
    fun s => ⟨rfl, rfl,
      fun cc => ⟨encode_retCond cc, (exec_retCond cc s).trans (returnIf_eq cc 2 3 s)⟩, rfl, rfl⟩⟩

end Sys2Proof.Machine
end

section
/-! PROOFS. System instructions and the wake-up (45_system.md; O32, O33). The instructions are single rows,
whose meanings read as stated. For the tick: the wake-up case by case, then whether the CPU has its turn,
then the two together as what a step from an unfaulted machine does. -/

namespace Sys2Proof.Machine

/-! ### The wake-up (R502) -/

theorem wakeUp_of_halted_of_pending {s : State} (hw : s.cpu.wake = none) (hp : s.pending ≠ 0) :
    wakeUp s = { s with cpu := { s.cpu with wake := some s.cycle } } :=
  if_pos ⟨hw, hp⟩

theorem wakeUp_of_no_pending {s : State} (hp : s.pending = 0) : wakeUp s = s :=
  if_neg fun h => h.2 hp

theorem wakeUp_of_scheduled {s : State} {w : Nat} (hw : s.cpu.wake = some w) : wakeUp s = s :=
  if_neg fun h => Option.some_ne_none w (hw.symm.trans h.1)

/-! ### The CPU's turn in a step (R500, R503) -/

theorem cpuStep_of_due {s : State} (h : (wakeUp s).cpu.wake = some s.cycle) :
    cpuStep s = serviceOrExecute (wakeUp s) :=
  if_pos h

theorem cpuStep_of_not_due {s : State} (h : (wakeUp s).cpu.wake ≠ some s.cycle) :
    cpuStep s = .next (wakeUp s) :=
  if_neg h

@[simp] theorem deviceSteps_cycle (s : State) : (deviceSteps s).cycle = s.cycle :=
  (deviceSteps_change s).toBus.cycle

theorem step_of_no_fault {s : State} (hf : s.fault = none) :
    step s = endTick (cpuStep (deviceSteps s)) := by
  unfold step tick
  rw [hf]

/-- The CPU has its turn in a step when, after the wake-up, W = T. -/
theorem step_of_due {s : State} (hf : s.fault = none)
    (h : (wakeUp (deviceSteps s)).cpu.wake = some s.cycle) :
    step s = endTick (serviceOrExecute (wakeUp (deviceSteps s))) := by
  rw [step_of_no_fault hf, cpuStep_of_due (by rw [h, deviceSteps_cycle])]

/-- Without its turn, the CPU leaves the step to the devices' part of the tick. -/
theorem step_of_not_due {s : State} (hf : s.fault = none)
    (hu : wakeUp (deviceSteps s) = deviceSteps s) (h : (deviceSteps s).cpu.wake ≠ some s.cycle) :
    step s = .next { deviceSteps s with cycle := s.cycle + 1 } := by
  have hturn : cpuStep (deviceSteps s) = .next (deviceSteps s) := by
    rw [cpuStep_of_not_due (by rwa [hu, deviceSteps_cycle]), hu]
  calc step s = .next (deviceSteps s).advanceCycle := by rw [step_of_no_fault hf, hturn, endTick]
    _ = .next { deviceSteps s with cycle := s.cycle + 1 } := by
      rw [State.advanceCycle, deviceSteps_cycle]

/-! ### The statements -/

/-- Settles O32: three single rows, whose encodings and meanings read as stated. -/
theorem nopDiAndEi : Obligations.NopDiAndEi := fun _ => ⟨rfl, rfl, rfl, rfl, rfl, rfl⟩

/-- Settles O33: HALT is a single row. In a tick, a CPU that is halted without a request or waits for
another cycle has no turn; a woken or due one has it, the woken one with W = T. -/
theorem haltAndWakeUp : Obligations.HaltAndWakeUp := by
  refine ⟨fun _ => ⟨rfl, rfl⟩, fun s hf => ⟨?halted, ?waiting, ?woken, ?due⟩⟩
  case halted =>
    intro hw hp
    exact step_of_not_due hf (wakeUp_of_no_pending hp) (by simp [hw])
  case waiting =>
    intro w hw hne
    exact step_of_not_due hf (wakeUp_of_scheduled hw) (by simpa [hw] using hne)
  case woken =>
    intro hw hp
    have hu := wakeUp_of_halted_of_pending hw hp
    rw [step_of_due hf (by simp [hu]), hu, deviceSteps_cycle]
  case due =>
    intro hw
    have hu := wakeUp_of_scheduled hw
    rw [step_of_due hf (by rw [hu, hw]), hu]

end Sys2Proof.Machine
end

section
/-! PROOFS. The bus (20_memory.md; O3, O4). Beside the laws of Laws/Bus.lean: what a read or a write of each
memory is, and the registers whose value is narrower than a byte. -/

namespace Sys2Proof.Machine

/-! ### The memories on the bus -/

theorem busRead_vram {s : State} {addr : Word} (h : 0x8000 ≤ addr.toNat ∧ addr.toNat < 0xA000) :
    s.busRead addr = s.lcd.vram.read (addr.toNat - 0x8000) := by
  rw [busRead_lcd (.inl h), lcdRead, if_pos h]
  rfl

theorem busRead_oam {s : State} {addr : Word} (h : 0xFE00 ≤ addr.toNat ∧ addr.toNat < 0xFEA0) :
    s.busRead addr = s.lcd.oam.read (addr.toNat - 0xFE00) := by
  rw [busRead_lcd (.inr (.inl h)), lcdRead, if_neg (by omega), if_pos h]
  rfl

theorem busRead_hram {s : State} {addr : Word} (h : 0xFF80 ≤ addr.toNat ∧ addr.toNat < 0xFFFF) :
    s.busRead addr = s.cpu.hram.read (addr.toNat - 0xFF80) := by
  rw [busRead_cpu (.inr h.1), cpuRead, if_neg (by omega), if_pos h]
  rfl

theorem busWrite_vram {s : State} {addr : Word} (v : Byte)
    (h : 0x8000 ≤ addr.toNat ∧ addr.toNat < 0xA000) :
    s.busWrite addr v =
      { s with lcd := { s.lcd with vram := s.lcd.vram.write (addr.toNat - 0x8000) v } } := by
  rw [busWrite_lcd v (.inl h), lcdWrite, if_pos h]

theorem busWrite_oam {s : State} {addr : Word} (v : Byte)
    (h : 0xFE00 ≤ addr.toNat ∧ addr.toNat < 0xFEA0) :
    s.busWrite addr v =
      { s with lcd := { s.lcd with oam := s.lcd.oam.write (addr.toNat - 0xFE00) v } } := by
  rw [busWrite_lcd v (.inr (.inl h)), lcdWrite, if_neg (by omega), if_pos h]

theorem busWrite_hram {s : State} {addr : Word} (v : Byte)
    (h : 0xFF80 ≤ addr.toNat ∧ addr.toNat < 0xFFFF) :
    s.busWrite addr v =
      { s with cpu := { s.cpu with hram := s.cpu.hram.write (addr.toNat - 0xFF80) v } } := by
  rw [busWrite_cpu v (.inr h.1), cpuWrite, if_neg (by omega), if_pos h]

/-! ### IF, IE and P1 (R36, R37, R520, R521, R594) -/

theorem zext5_eq_append (v : BitVec 5) : zext5 v = 0b000#3 ++ v :=
  BitVec.setWidth_eq_append (by decide)

theorem low5_eq_extractLsb' (v : Byte) : low5 v = v.extractLsb' 0 5 :=
  BitVec.setWidth_eq_extractLsb' (by decide)

theorem busRead_if (s : State) : s.busRead 0xFF0F = 0b000#3 ++ s.cpu.iflag :=
  zext5_eq_append s.cpu.iflag

theorem busRead_ie (s : State) : s.busRead 0xFFFF = 0b000#3 ++ s.cpu.ie :=
  zext5_eq_append s.cpu.ie

theorem busRead_p1 (s : State) : s.busRead 0xFF00 = ~~~(0b00#2 ++ s.joypad.p1i) :=
  congrArg (~~~ ·) (BitVec.setWidth_eq_append (x := s.joypad.p1i) (w := 8) (by decide))

theorem busWrite_if {s : State} {addr : Word} (v : Byte) (h : addr.toNat = 0xFF0F) :
    s.busWrite addr v = { s with cpu := { s.cpu with iflag := v.extractLsb' 0 5 } } := by
  rw [busWrite_cpu v (.inl h), cpuWrite, if_pos h, low5_eq_extractLsb']

theorem busWrite_ie {s : State} {addr : Word} (v : Byte) (h : addr.toNat = 0xFFFF) :
    s.busWrite addr v = { s with cpu := { s.cpu with ie := v.extractLsb' 0 5 } } := by
  rw [busWrite_cpu v (.inr (by omega)), cpuWrite, if_neg (by omega), if_neg (by omega), if_pos h,
    low5_eq_extractLsb']

/-! ### The two windows of work RAM (R76) -/

theorem echo_sub_toNat {addr : Word} (h : 0xE000 ≤ addr.toNat) :
    (addr - 0x2000).toNat = addr.toNat - 0x2000 := by
  bv_omega

theorem echo_reads_back {s : State} {addr : Word} (v : Byte)
    (h : 0xE000 ≤ addr.toNat ∧ addr.toNat < 0xFE00) :
    (s.busWrite addr v).busRead (addr - 0x2000) = v := by
  have hwin := echo_sub_toNat h.1
  rw [busWrite_echo v h, busRead_wram (by omega), hwin, Nat.sub_sub, Memory.read_write_self]

theorem wram_reads_back_in_echo {s : State} {addr : Word} (v : Byte)
    (h : 0xE000 ≤ addr.toNat ∧ addr.toNat < 0xFE00) :
    (s.busWrite (addr - 0x2000) v).busRead addr = v := by
  have hwin := echo_sub_toNat h.1
  rw [busWrite_wram v (by omega), busRead_echo h, hwin, Nat.sub_sub, Memory.read_write_self]

/-! ### The statements -/

/-- Settles O3: the owner of each range answers; a register's read is its owner's answer at that
address. -/
theorem busReadsFollowTheAddressMap : Obligations.BusReadsFollowTheAddressMap := by
  intro s addr
  refine ⟨?bootRom, ?overlaid, ?cartridge, fun h h' => busRead_vram ⟨h, h'⟩,
    fun h h' => busRead_wram ⟨h, h'⟩, fun h h' => busRead_echo ⟨h, h'⟩,
    fun h h' => busRead_oam ⟨h, h'⟩, fun h h' => busRead_hram ⟨h, h'⟩, ?unmapped, busRead_p1 s, rfl,
    rfl, rfl, rfl, busRead_if s, busRead_ie s, rfl, rfl, rfl, rfl, rfl, rfl, rfl, rfl, rfl, rfl,
    rfl, rfl⟩
  case bootRom =>
    intro h hb
    rw [busRead_rom (by omega), if_pos ⟨h, hb⟩]
  case overlaid =>
    intro h hb
    rw [busRead_rom (by omega), if_neg (by simp [hb])]
  case cartridge =>
    intro h h'
    rw [busRead_rom h', if_neg (by omega)]
  case unmapped =>
    intro h
    exact busRead_unmapped (by omega) (by unfold Unwritable; omega)

/-- Settles O4: a write reaches the owner of its range alone. -/
theorem busWritesReachTheOwningMemory : Obligations.BusWritesReachTheOwningMemory := fun _ _ v =>
  ⟨busWrite_unwritable v, busWrite_vram v, busWrite_wram v,
    fun h => ⟨busWrite_echo v h, echo_reads_back v h, wram_reads_back_in_echo v h⟩,
    busWrite_oam v, busWrite_hram v, busWrite_if v, busWrite_ie v, busWrite_bootDisable v⟩

end Sys2Proof.Machine
end

section
/-! PROOFS. The timer (60_exceptions.md section 3; O43). IncIfFalling after a change of the counter or the
control is `afterEdge`, once the two spellings of the tap agree. -/

namespace Sys2Proof.Machine

/-- The two spellings of the tap agree on every TAC (R45). -/
theorem Timer.tap_eq_tapOf (t : Timer) : t.tap = tapOf t.tac := by
  have every : ∀ tac : Byte, Timer.tap { divc := 0, tima := 0, tma := 0, tac := tac } = tapOf tac := by
    decide
  exact every t.tac

theorem Timer.signal_eq_timerStateOf (t : Timer) : t.signal = timerStateOf t.divc t.tac := by
  rw [Timer.signal, Timer.tap_eq_tapOf, timerStateOf]

/-- Replacing the counter and the control and then looking for an edge is `afterEdge` (R532). -/
theorem incIfFalling_eq_afterEdge (s : State) (before : Bool) (divc : Word) (tac : Byte) :
    State.incIfFalling { s with timer := { s.timer with divc := divc, tac := tac } } before =
      afterEdge s before divc tac := by
  rw [State.incIfFalling, Timer.signal_eq_timerStateOf, afterEdge]
  simp only [Bool.and_eq_true, Bool.not_eq_true']
  rfl

/-- Settles O43: the step and the writes of DIV and TAC replace the counter or the control and then look for
an edge; the writes of TIMA and TMA are plain stores. -/
theorem theTimerCountsFallingEdges : Obligations.TheTimerCountsFallingEdges := by
  intro s v
  have edge := incIfFalling_eq_afterEdge s (timerStateOf s.timer.divc s.timer.tac)
  refine ⟨?step, ?div, ?tima, ?tma, ?tac⟩
  case step => rw [← edge, ← Timer.signal_eq_timerStateOf]; rfl
  case div =>
    rw [← edge, ← Timer.signal_eq_timerStateOf]
    exact busWrite_timer v (by decide)
  case tima => exact busWrite_timer v (by decide)
  case tma => exact busWrite_timer v (by decide)
  case tac =>
    rw [← edge, ← Timer.signal_eq_timerStateOf]
    exact busWrite_timer v (by decide)

end Sys2Proof.Machine
end

section
/-! PROOFS. The LCD controller's registers (60_exceptions.md section 4; O45, O46). SetLY, which is Compare
after LY is stored, and EnterMode are one equation each, over requests that depend on conditions; what a
request and a new match or mode do to IF and STAT is said bit by bit. -/

namespace Sys2Proof.Machine

/-! ### A request that depends on a condition -/

/-- IF after source `i` is requested if `c` (R511). -/
def requested (iflag : BitVec 5) (i : IntSource) (c : Prop) [Decidable c] : BitVec 5 :=
  if c then iflag ||| i.mask else iflag

theorem ite_raise (s : State) (i : IntSource) (c : Prop) [Decidable c] :
    (if c then s.raise i else s) =
      { s with cpu := { s.cpu with iflag := requested s.cpu.iflag i c } } := by
  unfold requested
  split <;> rfl

theorem IntSource.mask_eq_twoPow (i : IntSource) : i.mask = BitVec.twoPow 5 i.index := by
  cases i <;> rfl

theorem IntSource.index_lt (i : IntSource) : i.index < 5 := by
  cases i <;> decide

theorem requested_getLsbD (iflag : BitVec 5) (i : IntSource) (c : Prop) [Decidable c] (j : Nat) :
    (requested iflag i c).getLsbD j = true ↔ iflag.getLsbD j = true ∨ (i.index = j ∧ c) := by
  unfold requested
  split
  · next hc =>
    simp [IntSource.mask_eq_twoPow, BitVec.getLsbD_twoPow, i.index_lt, hc]
  · next hc => simp [hc]

/-- IF goes from `old` to `new` by the requests of VBLANK and LCD_STAT that these conditions make. -/
def Requests (old new : BitVec 5) (vblank stat : Prop) : Prop :=
  (new.getLsbD 0 = true ↔ old.getLsbD 0 = true ∨ vblank) ∧
  (new.getLsbD 1 = true ↔ old.getLsbD 1 = true ∨ stat) ∧
  new.extractLsb' 2 3 = old.extractLsb' 2 3

theorem requested_others (iflag : BitVec 5) {i : IntSource} (c : Prop) [Decidable c] (h : i.index < 2) :
    (requested iflag i c).extractLsb' 2 3 = iflag.extractLsb' 2 3 := by
  ext j hj
  rw [BitVec.getElem_extractLsb', BitVec.getElem_extractLsb', Bool.eq_iff_iff, requested_getLsbD]
  exact or_iff_left fun hc => by omega

theorem requests_lcdStat (iflag : BitVec 5) (c : Prop) [Decidable c] :
    Requests iflag (requested iflag .lcdStat c) False c := by
  refine ⟨?_, ?_, requested_others iflag c (by decide)⟩ <;>
    rw [requested_getLsbD] <;> simp [IntSource.index]

theorem requests_vblank (iflag : BitVec 5) (c : Prop) [Decidable c] :
    Requests iflag (requested iflag .vblank c) c False := by
  refine ⟨?_, ?_, requested_others iflag c (by decide)⟩ <;>
    rw [requested_getLsbD] <;> simp [IntSource.index]

theorem Requests.trans {a b c : BitVec 5} {v v' s s' : Prop} (h : Requests a b v s)
    (k : Requests b c v' s') : Requests a c (v ∨ v') (s ∨ s') := by
  obtain ⟨hv, hs, ho⟩ := h
  obtain ⟨kv, ks, ko⟩ := k
  exact ⟨by rw [kv, hv, or_assoc], by rw [ks, hs, or_assoc], ko.trans ho⟩

/-- EnterMode's two requests (R557). -/
theorem requests_mode (iflag : BitVec 5) (c d : Prop) [Decidable c] [Decidable d] :
    Requests iflag (requested (requested iflag .lcdStat c) .vblank d) d c := by
  simpa using (requests_lcdStat iflag c).trans (requests_vblank _ d)

/-- The request of a line comparison, then EnterMode's two (R556, R557). -/
theorem requests_line_mode (iflag : BitVec 5) (b c d : Prop) [Decidable b] [Decidable c]
    [Decidable d] :
    Requests iflag (requested (requested (requested iflag .lcdStat b) .lcdStat c) .vblank d) d
      (b ∨ c) := by
  simpa using (requests_lcdStat iflag b).trans (requests_mode _ c d)

/-! ### The fields of STAT (R47) -/

theorem statWithMatch_getLsbD (stat : Byte) (eq : Bool) {k : Nat} (hk : k < 8) :
    (statWithMatch stat eq).getLsbD k = if k = 2 then eq else stat.getLsbD k := by
  unfold statWithMatch
  interval_cases k <;> cases eq <;> simp

theorem statWithMode_eq_append (stat : Byte) (m : BitVec 2) :
    statWithMode stat m = stat.extractLsb' 2 6 ++ m := by
  apply BitVec.eq_of_getLsbD_eq
  intro k hk
  rw [BitVec.getLsbD_append, statWithMode]
  interval_cases k <;> simp

theorem statWithMode_getLsbD (stat : Byte) (m : BitVec 2) {k : Nat} (hk : k < 8) :
    (statWithMode stat m).getLsbD k = if k < 2 then m.getLsbD k else stat.getLsbD k := by
  rw [statWithMode_eq_append, BitVec.getLsbD_append]
  split
  · rfl
  · rw [BitVec.getLsbD_extractLsb', decide_eq_true (by omega), Bool.true_and,
      show 2 + (k - 2) = k by omega]

/-- Fields of two bytes that agree on every bit of the field are equal. -/
theorem extractLsb'_congr {a b : Byte} {start len : Nat}
    (h : ∀ k, start ≤ k → k < start + len → a.getLsbD k = b.getLsbD k) :
    a.extractLsb' start len = b.extractLsb' start len := by
  ext j hj
  rw [BitVec.getElem_extractLsb', BitVec.getElem_extractLsb', h _ (by omega) (by omega)]

@[simp] theorem statWithMatch_mode (stat : Byte) (eq : Bool) :
    (statWithMatch stat eq).extractLsb' 0 2 = stat.extractLsb' 0 2 :=
  extractLsb'_congr fun k _ hk => by
    rw [statWithMatch_getLsbD _ _ (by omega), if_neg (by omega)]

@[simp] theorem statWithMatch_enables (stat : Byte) (eq : Bool) :
    (statWithMatch stat eq).extractLsb' 3 5 = stat.extractLsb' 3 5 :=
  extractLsb'_congr fun k _ hk => by
    rw [statWithMatch_getLsbD _ _ (by omega), if_neg (by omega)]

@[simp] theorem statWithMode_mode (stat : Byte) (m : BitVec 2) :
    (statWithMode stat m).extractLsb' 0 2 = m := by
  ext j hj
  rw [BitVec.getElem_extractLsb', statWithMode_getLsbD _ _ (by omega), if_pos (by omega),
    Nat.zero_add, BitVec.getLsbD_eq_getElem]

@[simp] theorem statWithMode_enables (stat : Byte) (m : BitVec 2) :
    (statWithMode stat m).extractLsb' 3 5 = stat.extractLsb' 3 5 :=
  extractLsb'_congr fun k _ hk => by
    rw [statWithMode_getLsbD _ _ (by omega), if_neg (by omega)]

theorem statWithMode_zero (stat : Byte) : statWithMode stat 0 = stat &&& 0xFC :=
  BitVec.or_zero

/-- A match changes no bit of STAT but bit 2. -/
theorem statWithMatch_and (stat : Byte) (eq : Bool) :
    statWithMatch stat eq &&& 0xFB = stat &&& 0xFB := by
  apply BitVec.eq_of_getLsbD_eq
  intro k hk
  rw [BitVec.getLsbD_and, BitVec.getLsbD_and, statWithMatch_getLsbD _ _ hk]
  split
  · next h => subst h; simp
  · rfl

/-- The byte a write of STAT leaves: bits 7..3 of the byte written, bits 2..0 of STAT (R553). -/
theorem statWritten_eq_append (v stat : Byte) :
    (v &&& 0xF8) ||| (stat &&& 0x07) = v.extractLsb' 3 5 ++ stat.extractLsb' 0 3 := by
  apply BitVec.eq_of_getLsbD_eq
  intro k hk
  rw [BitVec.getLsbD_append]
  interval_cases k <;> simp

/-! ### Compare, SetLY and EnterMode, as one equation each (R556, R557, R564) -/

/-- A line matches LYC with INT_LYC set. -/
abbrev Lcd.matchRaises (v : Lcd) (line : Byte) : Prop := line = v.lyc ∧ v.stat.getLsbD 6 = true

/-- Entering mode `m` raises LCD_STAT. -/
abbrev modeRaises (stat : Byte) (m : BitVec 2) : Prop := m ≠ 3 ∧ stat.getLsbD (3 + m.toNat) = true

theorem modeRaises_zero (stat : Byte) : modeRaises stat 0 ↔ stat.getLsbD 3 = true :=
  and_iff_right (by decide)

theorem modeRaises_one (stat : Byte) : modeRaises stat 1 ↔ stat.getLsbD 4 = true :=
  and_iff_right (by decide)

theorem modeRaises_two (stat : Byte) : modeRaises stat 2 ↔ stat.getLsbD 5 = true :=
  and_iff_right (by decide)

theorem modeRaises_three (stat : Byte) : modeRaises stat 3 ↔ False :=
  iff_false_intro fun h => h.1 rfl

theorem modeRaises_iff (stat : Byte) (m : BitVec 2) :
    modeRaises stat m ↔ (m = 0 ∧ stat.getLsbD 3 = true) ∨ (m = 1 ∧ stat.getLsbD 4 = true) ∨
      (m = 2 ∧ stat.getLsbD 5 = true) := by
  have hm : m = 0 ∨ m = 1 ∨ m = 2 ∨ m = 3 := by revert m; decide
  rcases hm with rfl | rfl | rfl | rfl
  · rw [modeRaises_zero]; simp
  · rw [modeRaises_one]; simp
  · rw [modeRaises_two]; simp
  · rw [modeRaises_three]; simp

/-- Matching a line leaves the bits that enable a mode's request. -/
theorem modeRaises_statWithMatch (stat : Byte) (eq : Bool) (m : BitVec 2) :
    modeRaises (statWithMatch stat eq) m ↔ modeRaises stat m := by
  have := m.isLt
  rw [modeRaises, statWithMatch_getLsbD _ _ (by omega), if_neg (by omega)]

theorem setLine_eq (s : State) (v : Byte) :
    s.setLine v = { s with
      lcd := { s.lcd with ly := v, stat := statWithMatch s.lcd.stat (v == s.lcd.lyc) }
      cpu := { s.cpu with iflag := requested s.cpu.iflag .lcdStat (s.lcd.matchRaises v) } } := by
  simp only [State.setLine, State.compareLine, Bool.and_eq_true, beq_iff_eq]
  exact ite_raise _ _ _

theorem enterMode_eq (s : State) (m : BitVec 2) :
    s.enterMode m = { s with
      lcd := { s.lcd with stat := statWithMode s.lcd.stat m }
      cpu := { s.cpu with
        iflag := requested (requested s.cpu.iflag .lcdStat (modeRaises s.lcd.stat m)) .vblank (m = 1) } } :=
    by
  unfold State.enterMode
  dsimp only
  rw [ite_raise, ite_raise]

/-! ### Writes of the LCD registers (R551 to R555, R559) -/

theorem writeLcdc_on {s : State} {v : Byte} (hv : v.getLsbD 7 = true) (hp : s.lcd.phase = .off) :
    s.writeLcdc v = { s with lcd := { s.lcd with
      lcdc := v, phase := .starting, next := some (s.cycle + 19) } } :=
  if_pos ⟨hv, hp⟩

theorem writeLcdc_off {s : State} {v : Byte} (hv : v.getLsbD 7 = false) (hp : s.lcd.phase ≠ .off) :
    s.writeLcdc v = State.compareLine { s with lcd := { s.lcd with
      lcdc := v, phase := .off, next := none, stat := s.lcd.stat &&& 0xFC, frameBuf := none,
      ly := 0 } } := by
  rw [State.writeLcdc, if_neg (by simp [hp]), if_pos ⟨hv, hp⟩, statWithMode_zero]
  rfl

theorem writeLcdc_stored {s : State} {v : Byte} (h : v.getLsbD 7 = true ↔ s.lcd.phase ≠ .off) :
    s.writeLcdc v = { s with lcd := { s.lcd with lcdc := v } } := by
  rw [State.writeLcdc, if_neg fun hc => h.mp hc.1 hc.2, if_neg fun hc => ?_]
  exact Bool.false_ne_true (hc.1.symm.trans (h.mpr hc.2))

/-! ### The statements -/

/-- Settles O45: LCDC by its three cases; every other register is its arm of `lcdWrite`. -/
theorem writesOfTheLcdRegisters : Obligations.WritesOfTheLcdRegisters := by
  intro s v
  have lcd {addr : Word} (h : 0xFF40 ≤ addr.toNat ∧ addr.toNat ≤ 0xFF4B) :
      s.busWrite addr v = lcdWrite s addr.toNat v := busWrite_lcd v (.inr (.inr h))
  refine ⟨fun hv hp => (lcd (by decide)).trans (writeLcdc_on hv hp),
    fun hv hp => (lcd (by decide)).trans (writeLcdc_off hv hp),
    fun h => (lcd (by decide)).trans (writeLcdc_stored h), ?stat, lcd (by decide), lcd (by decide),
    lcd (by decide), lcd (by decide), lcd (by decide), lcd (by decide), lcd (by decide),
    lcd (by decide), lcd (by decide), lcd (by decide), ?vram, ?oam⟩
  case stat =>
    rw [← statWritten_eq_append]
    exact lcd (by decide)
  case vram =>
    intro k hk
    have ha : (BitVec.ofNat 16 (0x8000 + k)).toNat = 0x8000 + k := by bv_omega
    rw [busWrite_vram v (by omega), ha, Nat.add_sub_cancel_left]
  case oam =>
    intro k hk
    have ha : (BitVec.ofNat 16 (0xFE00 + k)).toNat = 0xFE00 + k := by bv_omega
    rw [busWrite_oam v (by omega), ha, Nat.add_sub_cancel_left]

/-- Settles O46, from the equations of SetLY, which is Compare after LY is stored, and of EnterMode. -/
theorem lineComparisonAndModeEntry : Obligations.LineComparisonAndModeEntry := by
  refine ⟨fun s v => ⟨_, ?equal, statWithMatch_and _ _, setLine_eq s v, rfl⟩, fun s m => ?enter⟩
  case equal => exact (statWithMatch_getLsbD _ _ (by decide)).trans (if_pos rfl)
  case enter =>
    obtain ⟨hvblank, hstat, hothers⟩ := requests_mode s.cpu.iflag (modeRaises s.lcd.stat m) (m = 1)
    exact ⟨_, by rw [← statWithMode_eq_append]; exact enterMode_eq s m,
      hstat.trans (or_congr_right (modeRaises_iff _ m)), hvblank, hothers⟩

end Sys2Proof.Machine
end

section
/-! PROOFS. The LCD controller's mode state machine (60_exceptions.md section 4; O47). A phase ends with
SetLY, with EnterMode or with both; each of the three is a line event. Beside it a frame may begin, grow by a
line or be published, which changes none of the rest. -/

namespace Sys2Proof.Machine

/-! ### The line events -/

/-- SetLY alone, in a phase that STAT shows. -/
theorem setLine_event {s : State} {p : Phase} (hp : s.lcd.phase = p)
    (hm : s.lcd.stat.extractLsb' 0 2 = p.mode) (line : Byte) (delay : Nat) :
    LineEvent s ((s.setLine line).scheduleLcd delay) p line s.lcd.wline delay True False
      (s.lcd.matchRaises line) s.lcd.frameBuf s.lcd.curImage := by
  subst hp
  exact ⟨_, _, by rw [setLine_eq]; rfl, by rw [statWithMatch_mode, hm], statWithMatch_enables _ _,
    fun _ => by rw [statWithMatch_getLsbD _ _ (by decide), if_pos rfl], fun h => absurd trivial h,
    requests_lcdStat _ _⟩

/-- EnterMode alone. -/
theorem enterMode_event (s : State) (p : Phase) (delay : Nat) :
    LineEvent s (((s.setPhase p).enterMode p.mode).scheduleLcd delay) p s.lcd.ly s.lcd.wline delay False
      (p.mode = 1) (modeRaises s.lcd.stat p.mode) s.lcd.frameBuf s.lcd.curImage :=
  ⟨_, _, by rw [enterMode_eq]; rfl, statWithMode_mode _ _, statWithMode_enables _ _, False.elim,
    fun _ => by rw [statWithMode_getLsbD _ _ (by decide), if_neg (by decide)], requests_mode _ _ _⟩

/-- SetLY, then EnterMode (decision D27). -/
theorem setLine_enterMode_event (s : State) (p : Phase) (line : Byte) (delay : Nat) :
    LineEvent s ((((s.setLine line).setPhase p).enterMode p.mode).scheduleLcd delay) p line s.lcd.wline
      delay True (p.mode = 1) (s.lcd.matchRaises line ∨ modeRaises s.lcd.stat p.mode) s.lcd.frameBuf
      s.lcd.curImage := by
  rw [← modeRaises_statWithMatch s.lcd.stat (line == s.lcd.lyc)]
  exact ⟨_, _, by rw [enterMode_eq, setLine_eq]; rfl, statWithMode_mode _ _,
    by rw [statWithMode_enables]; exact statWithMatch_enables _ _,
    fun _ => by
      rw [statWithMode_getLsbD _ _ (by decide), if_neg (by decide)]
      exact (statWithMatch_getLsbD _ _ (by decide)).trans (if_pos rfl),
    fun h => absurd trivial h, requests_line_mode _ _ _ _⟩

/-- A line added to the frame being built, with the step of the window row, beside a line event. -/
theorem LineEvent.withFrame {s t : State} {p : Phase} {ly wline : Byte} {delay : Nat}
    {compared vblank stat : Prop} {frame : Option (List Line)} {image : List ColorRow}
    (h : LineEvent s t p ly wline delay compared vblank stat frame image) (wline' : Byte)
    (frame' : Option (List Line)) :
    LineEvent s { t with lcd := { t.lcd with wline := wline', frameBuf := frame' } } p ly wline' delay
      compared vblank stat frame' image := by
  obtain ⟨newStat, iflag, rfl, h⟩ := h
  exact ⟨newStat, iflag, rfl, h⟩

/-- The frame being built published beside a line event. -/
theorem LineEvent.withImage {s t : State} {p : Phase} {ly wline : Byte} {delay : Nat}
    {compared vblank stat : Prop} {frame : Option (List Line)} {image : List ColorRow}
    (h : LineEvent s t p ly wline delay compared vblank stat frame image)
    (frame' : Option (List Line)) (image' : List ColorRow) :
    LineEvent s { t with lcd := { t.lcd with frameBuf := frame', curImage := image' } } p ly wline
      delay compared vblank stat frame' image' := by
  obtain ⟨newStat, iflag, rfl, h⟩ := h
  exact ⟨newStat, iflag, rfl, h⟩

/-- The requests of a line event, said otherwise. -/
theorem LineEvent.congr {s t : State} {p : Phase} {ly wline : Byte} {delay : Nat}
    {compared vblank vblank' stat stat' : Prop} {frame : Option (List Line)} {image : List ColorRow}
    (h : LineEvent s t p ly wline delay compared vblank stat frame image) (hv : vblank ↔ vblank')
    (hs : stat ↔ stat') : LineEvent s t p ly wline delay compared vblank' stat' frame image :=
  propext hv ▸ propext hs ▸ h

/-! ### The ends of the phases (R563, R565 to R569) -/

/-- EnterLine with a line other than 0. -/
theorem enterLine_event_of_ne {s : State} {line : Byte} (hl : line ≠ 0) :
    LineEvent s (s.enterLine line) .mode2 line s.lcd.wline 20 True False
      (s.lcd.matchRaises line ∨ s.lcd.stat.getLsbD 5 = true) s.lcd.frameBuf s.lcd.curImage := by
  rw [State.enterLine, if_neg hl]
  exact (setLine_enterMode_event s .mode2 line 20).congr (by decide)
    (or_congr_right (modeRaises_two _))

/-- EnterLine with line 0 begins a frame. -/
theorem enterLine_zero_event (s : State) :
    LineEvent s (s.enterLine 0) .mode2 0 0 20 True False
      (s.lcd.matchRaises 0 ∨ s.lcd.stat.getLsbD 5 = true) (some []) s.lcd.curImage :=
  (setLine_enterMode_event s.beginFrame .mode2 0 20).congr (by decide)
    (or_congr_right (modeRaises_two _))

/-! Rendering a line reads neither the phase nor STAT. -/

theorem insertSprite_phase_stat (v : Lcd) (p : Phase) (stat : Byte) (k : Nat) (l : List Nat) :
    Lcd.insertSprite { v with phase := p, stat := stat } k l = v.insertSprite k l := by
  induction l with
  | nil => rfl
  | cons j rest ih => rw [Lcd.insertSprite, Lcd.insertSprite, ih]; rfl

theorem renderLine_phase_stat (v : Lcd) (p : Phase) (stat : Byte) (y : Nat) :
    Lcd.renderLine { v with phase := p, stat := stat } y = v.renderLine y := by
  have hsort : Lcd.spritesByPriority { v with phase := p, stat := stat } y = v.spritesByPriority y := by
    unfold Lcd.spritesByPriority
    rw [funext₂ (insertSprite_phase_stat v p stat)]
    rfl
  unfold Lcd.renderLine Lcd.spriteGroups
  rw [hsort]
  rfl

theorem endMode2_eq (s : State) :
    s.endMode2 =
      let t := ((s.setPhase .mode3).enterMode 3).scheduleLcd 43
      { t with lcd := { t.lcd with
          wline := s.lcd.wlineAfter s.lcd.ly.toNat
          frameBuf := s.lcd.frameBuf.map (· ++ [s.lcd.renderLine s.lcd.ly.toNat]) } } := by
  simp only [← renderLine_phase_stat s.lcd .mode3 (statWithMode s.lcd.stat 3)]
  rw [State.endMode2, enterMode_eq]
  rfl

theorem endMode2_event (s : State) :
    LineEvent s s.endMode2 .mode3 s.lcd.ly (s.lcd.wlineAfter s.lcd.ly.toNat) 43 False False False
      (s.lcd.frameBuf.map (· ++ [s.lcd.renderLine s.lcd.ly.toNat])) s.lcd.curImage := by
  rw [endMode2_eq]
  exact ((enterMode_event s .mode3 43).withFrame _ _).congr (by decide) (modeRaises_three _)

theorem endMode3_event (s : State) :
    LineEvent s s.endMode3 .mode0 s.lcd.ly s.lcd.wline 51 False False (s.lcd.stat.getLsbD 3 = true)
      s.lcd.frameBuf s.lcd.curImage :=
  (enterMode_event s .mode0 51).congr (by decide) (modeRaises_zero _)

theorem publishFrame_of_some {s : State} {lines : List Line} (h : s.lcd.frameBuf = some lines) :
    s.publishFrame =
      { s with lcd := { s.lcd with curImage := lines.map Line.colors, frameBuf := none } } := by
  rw [State.publishFrame, h]

theorem setPhase_setLine (s : State) (p : Phase) (line : Byte) :
    (s.setPhase p).setLine line = (s.setLine line).setPhase p := by
  rw [setLine_eq, setLine_eq]
  rfl

theorem setLine_frameBuf (s : State) (line : Byte) :
    (s.setLine line).lcd.frameBuf = s.lcd.frameBuf := by
  rw [setLine_eq]

theorem enterMode_frameBuf (s : State) (m : BitVec 2) :
    (s.enterMode m).lcd.frameBuf = s.lcd.frameBuf := by
  rw [enterMode_eq]

/-- After line 143 the vertical blank begins and the frame is published (R569, R580). -/
theorem endMode0_event_of_last {s : State} {lines : List Line} (hl : 143 ≤ s.lcd.ly.toNat)
    (hf : s.lcd.frameBuf = some lines) :
    LineEvent s s.endMode0 .mode1 144 s.lcd.wline 114 True True
      (s.lcd.matchRaises 144 ∨ s.lcd.stat.getLsbD 4 = true) none (lines.map Line.colors) := by
  have hbuf : (((s.setLine 144).setPhase .mode1).enterMode 1).lcd.frameBuf = some lines := by
    rw [enterMode_frameBuf, State.setPhase_lcd, setLine_frameBuf, hf]
  rw [State.endMode0, if_neg (by omega), setPhase_setLine, publishFrame_of_some hbuf]
  exact ((setLine_enterMode_event s .mode1 144 114).withImage _ _).congr (by decide)
    (or_congr_right (modeRaises_one _))

/-- The line after one of 0 to 142 is not line 0, so no frame begins. -/
theorem endMode0_event_of_lt {s : State} (hl : s.lcd.ly.toNat < 143) :
    LineEvent s s.endMode0 .mode2 (s.lcd.ly + 1) s.lcd.wline 20 True False
      (s.lcd.matchRaises (s.lcd.ly + 1) ∨ s.lcd.stat.getLsbD 5 = true) s.lcd.frameBuf
      s.lcd.curImage := by
  rw [State.endMode0, if_pos hl]
  exact enterLine_event_of_ne (by bv_omega)

theorem stepMode1_event_of_lt {s : State} (hp : s.lcd.phase = .mode1)
    (hm : s.lcd.stat.extractLsb' 0 2 = Phase.mode .mode1) (hl : s.lcd.ly.toNat < 153) :
    LineEvent s s.stepMode1 .mode1 (s.lcd.ly + 1) s.lcd.wline 114 True False
      (s.lcd.matchRaises (s.lcd.ly + 1)) s.lcd.frameBuf s.lcd.curImage := by
  rw [State.stepMode1, if_pos hl]
  exact setLine_event hp hm (s.lcd.ly + 1) 114

theorem stepMode1_event_of_last {s : State} (hl : 153 ≤ s.lcd.ly.toNat) :
    LineEvent s s.stepMode1 .mode2 0 0 20 True False
      (s.lcd.matchRaises 0 ∨ s.lcd.stat.getLsbD 5 = true) (some []) s.lcd.curImage := by
  rw [State.stepMode1, if_neg (by omega)]
  exact enterLine_zero_event s

theorem modeStep_of_not_due {s : State} (hn : s.lcd.next ≠ some s.cycle) : modeStep s = s :=
  if_neg hn

/-! ### The statement -/

/-- Settles O47, phase by phase. -/
theorem theModeStateMachine : Obligations.TheModeStateMachine := by
  intro s
  refine ⟨modeStep_of_not_due, fun hn hm => ?_⟩
  rw [modeStep, if_pos hn]
  refine ⟨fun hp => ?off, fun hp => ?starting, fun hp => ?mode2, fun hp => ?mode3,
    fun hp hl => ?mode0, fun lines hp hl hf => ?lastLine, fun hp hl => ?mode1,
    fun hp hl => ?lastBlank⟩ <;> rw [hp] at hm ⊢
  case starting => exact enterLine_zero_event s
  case mode2 => exact endMode2_event s
  case mode3 => exact endMode3_event s
  case mode0 => exact endMode0_event_of_lt hl
  case lastLine => exact endMode0_event_of_last hl hf
  case mode1 => exact stepMode1_event_of_lt hp hm hl
  case lastBlank => exact stepMode1_event_of_last hl

end Sys2Proof.Machine
end

section
/-! PROOFS. The OAM DMA engine (60_exceptions.md R560; O48). A running copy is described by the number of
bytes it has copied; each step copies one more, and reads what the bus read before the copy: it has changed
OAM alone, and there only bytes it has already read. -/

namespace Sys2Proof.Machine

theorem dmaAddress_eq_append {v : Lcd} (h : v.dmaIdx < 160) :
    dmaAddress v = v.dmaSrc ++ BitVec.ofNat 8 v.dmaIdx := by
  apply BitVec.eq_of_toNat_eq
  have hsrc := v.dmaSrc.isLt
  rw [dmaAddress, ← word16, word16_toNat, BitVec.toNat_ofNat, BitVec.toNat_ofNat]
  omega

theorem dmaStep_of_inactive {s : State} (h : s.lcd.dmaActive = false) : dmaStep s = s :=
  if_neg (by simp [h])

/-- One step of a copy (R560). -/
theorem dmaStep_of_active {s : State} (ha : s.lcd.dmaActive = true) (hi : s.lcd.dmaIdx < 160) :
    dmaStep s = { s with lcd := { s.lcd with
      oam := s.lcd.oam.write s.lcd.dmaIdx (s.busRead (s.lcd.dmaSrc ++ BitVec.ofNat 8 s.lcd.dmaIdx))
      dmaIdx := s.lcd.dmaIdx + 1
      dmaActive := decide (s.lcd.dmaIdx ≠ 159) } } := by
  rw [dmaStep, if_pos ha, dmaAddress_eq_append hi]
  simp

/-- `s` after a copy has changed OAM and the engine's progress. -/
def State.withDma (s : State) (oam : Memory) (idx : Nat) (active : Bool) : State :=
  { s with lcd := { s.lcd with oam := oam, dmaIdx := idx, dmaActive := active } }

/-- The bus reads a copy's progress through OAM alone. -/
theorem busRead_withDma {s : State} {oam : Memory} {addr : Word} (idx : Nat) (active : Bool)
    (h : 0xFE00 ≤ addr.toNat ∧ addr.toNat < 0xFEA0 →
      oam.read (addr.toNat - 0xFE00) = s.lcd.oam.read (addr.toNat - 0xFE00)) :
    (s.withDma oam idx active).busRead addr = s.busRead addr := by
  by_cases ho : 0xFE00 ≤ addr.toNat ∧ addr.toNat < 0xFEA0
  · rw [busRead_oam ho, busRead_oam ho]
    exact h ho
  · have hlcd : lcdRead (s.withDma oam idx active) addr.toNat = lcdRead s addr.toNat := by
      unfold lcdRead
      rw [if_neg ho, if_neg ho]
      rfl
    unfold State.busRead
    dsimp only
    rw [hlcd]
    rfl

/-- `t` is `s` after `k` steps of a copy begun in `s`. -/
def DmaCopied (s t : State) (k : Nat) : Prop :=
  ∃ oam, t = s.withDma oam k (decide (k ≠ 160)) ∧
    ∀ j, oam.read j =
      if j < k then s.busRead (s.lcd.dmaSrc ++ BitVec.ofNat 8 j) else s.lcd.oam.read j

theorem dmaCopied_zero {s : State} (ha : s.lcd.dmaActive = true) (hi : s.lcd.dmaIdx = 0) :
    DmaCopied s s 0 := by
  refine ⟨s.lcd.oam, ?_, fun j => by simp⟩
  unfold State.withDma
  rw [decide_eq_true (by decide), ← ha, ← hi]

theorem dmaCopied_succ {s t : State} {k : Nat} (hk : k < 160) (h : DmaCopied s t k) :
    DmaCopied s (dmaStep t) (k + 1) := by
  obtain ⟨oam, rfl, hread⟩ := h
  have hsame : (s.withDma oam k (decide (k ≠ 160))).busRead (s.lcd.dmaSrc ++ BitVec.ofNat 8 k) =
      s.busRead (s.lcd.dmaSrc ++ BitVec.ofNat 8 k) := by
    apply busRead_withDma
    rw [← word16, word16_toNat, BitVec.toNat_ofNat, Nat.mod_eq_of_lt (by omega)]
    intro ho
    rw [hread, if_neg (by omega)]
  refine ⟨oam.write k (s.busRead (s.lcd.dmaSrc ++ BitVec.ofNat 8 k)), ?_, fun j => ?_⟩
  · rw [dmaStep_of_active (decide_eq_true (by omega)) hk, ← hsame]
    simp [State.withDma]
  · rw [Memory.read_write, hread]
    rcases lt_trichotomy j k with hlt | rfl | hgt
    · rw [if_neg (by omega), if_pos hlt, if_pos (by omega)]
    · rw [if_pos rfl, if_pos (by omega)]
    · rw [if_neg (by omega), if_neg (by omega), if_neg (by omega)]

theorem dmaCopied_iterate {s : State} (ha : s.lcd.dmaActive = true) (hi : s.lcd.dmaIdx = 0) {k : Nat}
    (hk : k ≤ 160) : DmaCopied s (dmaStep^[k] s) k := by
  induction k with
  | zero => exact dmaCopied_zero ha hi
  | succ k ih =>
    rw [Function.iterate_succ_apply']
    exact dmaCopied_succ hk (ih (by omega))

/-- Settles O48: the step as it is defined, and a copy's progress after k and after 160 steps. -/
theorem aDmaCopiesOneByteAStepFor160Steps : Obligations.ADmaCopiesOneByteAStepFor160Steps := by
  refine ⟨fun s => ⟨dmaStep_of_inactive, dmaStep_of_active⟩, fun s k ha hi hk => ?_⟩
  obtain ⟨_, hrunning, -⟩ := dmaCopied_iterate ha hi hk.le
  obtain ⟨_, hended, hread⟩ := dmaCopied_iterate ha hi le_rfl
  rw [hrunning, hended]
  exact ⟨decide_eq_true (by omega), rfl, (hread k).trans (if_pos hk)⟩

end Sys2Proof.Machine
end

section
/-! PROOFS. Lines of pixels (60_exceptions.md R571; O49). One lemma says which pixel stands at a column of
each operation's result; the operations on single pixels are their definitions. -/

namespace Sys2Proof.Machine

/-! ### The pixel at a column -/

theorem pixelAt_of_lt {ln : Line} {x : Nat} (h : x < ln.length) : pixelAt ln x = ln[x] :=
  List.getD_eq_getElem _ _ h

theorem pixelAt_of_le {ln : Line} {x : Nat} (h : ln.length ≤ x) : pixelAt ln x = Pixel.clear :=
  List.getD_eq_default _ _ h

theorem pixelAt_range_map (f : Nat → Pixel) {w x : Nat} (h : x < w) :
    pixelAt ((List.range w).map f) x = f x := by
  rw [pixelAt_of_lt (by simpa using h), List.getElem_map, List.getElem_range]

theorem pixelAt_mapColors {ln : Line} (palette : Byte) {x : Nat} (h : x < ln.length) :
    pixelAt (ln.mapColors palette) x = (pixelAt ln x).mapColor palette := by
  rw [pixelAt_of_lt h, pixelAt_of_lt (by simpa [Line.mapColors] using h)]
  exact List.getElem_map _

theorem pixelAt_over {lower upper : Line} {x : Nat} (hl : x < lower.length) (hu : x < upper.length) :
    pixelAt (Line.over lower upper) x = (pixelAt lower x).over (pixelAt upper x) := by
  rw [pixelAt_of_lt hl, pixelAt_of_lt hu, pixelAt_of_lt (by simp [Line.over, hl, hu])]
  exact List.getElem_zipWith

theorem pixelAt_overWhere {lower upper : Line} {mask : List Bool} {x : Nat} (hl : x < lower.length)
    (hu : x < upper.length) (hm : x < mask.length) :
    pixelAt (Line.overWhere lower upper mask) x =
      (pixelAt lower x).overWhere (pixelAt upper x) (mask.getD x false) := by
  rw [pixelAt_of_lt hl, pixelAt_of_lt hu, List.getD_eq_getElem _ _ hm,
    pixelAt_of_lt (by simp [Line.overWhere, hl, hu, hm])]
  simp [Line.overWhere]

@[simp] theorem Line.length_mapColors (ln : Line) (palette : Byte) :
    (ln.mapColors palette).length = ln.length :=
  List.length_map _

theorem Line.length_over {lower upper : Line} (h : lower.length = upper.length) :
    (Line.over lower upper).length = lower.length := by
  simp [Line.over, ← h]

theorem Line.length_overWhere {lower upper : Line} {mask : List Bool}
    (h : lower.length = upper.length) (hm : mask.length = lower.length) :
    (Line.overWhere lower upper mask).length = lower.length := by
  simp [Line.overWhere, ← h, hm]

theorem Line.length_join {left right : Line} (k : Nat) (h : left.length = right.length) :
    (Line.join left right k).length = left.length := by
  simp only [Line.join, List.length_append, List.length_take, List.length_drop, ← h]
  omega

@[simp] theorem Line.length_wrapped (ln : Line) (start w : Nat) : (ln.wrapped start w).length = w := by
  simp [Line.wrapped]

@[simp] theorem Line.length_shifted (ln : Line) (d : Int) (w : Nat) :
    (ln.shifted d w).length = w := by
  simp [Line.shifted]

@[simp] theorem pixelAt_emptyLine (w x : Nat) : pixelAt (emptyLine w) x = Pixel.clear := by
  by_cases h : x < w
  · rw [pixelAt_of_lt (by simpa [emptyLine] using h)]
    exact List.getElem_replicate _
  · exact pixelAt_of_le (by simpa [emptyLine] using h)

/-- Before column `k` the left line's pixel, from it on the right line's. -/
theorem pixelAt_join {left right : Line} (k : Nat) (h : left.length = right.length) (x : Nat) :
    pixelAt (Line.join left right k) x = if x < k then pixelAt left x else pixelAt right x := by
  have hlen := Line.length_join k h
  by_cases hx : x < left.length
  · rw [pixelAt_of_lt hx, pixelAt_of_lt (by omega), pixelAt_of_lt (by omega)]
    simp only [Line.join, List.getElem_append, List.length_take, List.getElem_take,
      List.getElem_drop]
    split_ifs
    · rfl
    · omega
    · omega
    · congr 1
      omega
  · rw [pixelAt_of_le (by omega), pixelAt_of_le (by omega), pixelAt_of_le (by omega), ite_self]

theorem pixelAt_wrapped (ln : Line) (start : Nat) {w x : Nat} (h : x < w) :
    pixelAt (ln.wrapped start w) x = pixelAt ln ((start + x) % ln.length) :=
  pixelAt_range_map _ h

/-- `Line.shifted` maps over the columns as integers. -/
theorem Line.shifted_eq_map (ln : Line) (d : Int) (w : Nat) :
    ln.shifted d w = (List.range w).map fun x : Nat =>
      if 0 ≤ (x : Int) - d ∧ (x : Int) - d < ln.length then pixelAt ln ((x : Int) - d).toNat
      else Pixel.clear := by
  unfold Line.shifted
  rw [bind_pure_comp, List.map_eq_map, List.map_map]
  rfl

theorem pixelAt_shifted (ln : Line) (d : Int) {w x : Nat} (h : x < w) :
    pixelAt (ln.shifted d w) x =
      if 0 ≤ (x : Int) - d ∧ (x : Int) - d < ln.length then pixelAt ln ((x : Int) - d).toNat
      else Pixel.clear := by
  rw [Line.shifted_eq_map, pixelAt_range_map _ h]

/-! ### Colours -/

/-- A mapped pixel shows the palette's shade of its colour. -/
theorem Pixel.mapColor_color (palette : Byte) (p : Pixel) :
    (p.mapColor palette).color = palette.extractLsb' (2 * p.color.toNat) 2 := by
  have hbits : ∀ c : BitVec 2, BitVec.ofBool (c.getLsbD 1) ++ BitVec.ofBool (c.getLsbD 0) = c := by
    decide
  exact hbits _

/-- The palette 0xE4 gives every colour index itself. -/
theorem Pixel.mapColor_identity (p : Pixel) : p.mapColor 0b11100100 = p := by
  obtain ⟨_ | _, _ | _, _ | _⟩ := p <;> rfl

/-- Settles O49, operation by operation. -/
theorem lineOperationsActOnPixels : Obligations.LineOperationsActOnPixels := by
  refine ⟨fun w x => ⟨List.length_replicate, pixelAt_emptyLine w x⟩,
    fun ln palette => ⟨ln.length_mapColors palette, fun x hx => ?mapColors⟩, fun ln => ?identity,
    fun lower upper m hu hm => ⟨Line.length_over hu, Line.length_overWhere hu hm, fun x hx => ?overlaid⟩,
    fun left right k h => ⟨Line.length_join k h, pixelAt_join k h⟩,
    fun ln start w => ⟨ln.length_wrapped start w, fun x hx => pixelAt_wrapped ln start hx⟩,
    fun ln d w => ⟨ln.length_shifted d w, fun x hx => pixelAt_shifted ln d hx⟩⟩
  case mapColors =>
    rw [pixelAt_mapColors palette hx]
    exact ⟨rfl, Pixel.mapColor_color _ _⟩
  case identity =>
    exact (List.map_congr_left fun p _ => p.mapColor_identity).trans (List.map_id _)
  case overlaid =>
    rw [pixelAt_over hx (hu ▸ hx), pixelAt_overWhere hx (hu ▸ hx) (hm ▸ hx)]
    exact ⟨rfl, rfl, rfl, rfl⟩

end Sys2Proof.Machine
end

section
/-! PROOFS. The background and the window of a line (60_exceptions.md R572 to R574; O50): the pixel of a tile
map at a column, and with it the pixels of the background, of the window and of the two joined. -/

namespace Sys2Proof.Machine

/-! ### Tile addresses (R574) -/

theorem tileAddr_unsigned {v : Lcd} (h : v.lcdc.getLsbD 4 = true) (idx : Byte) :
    v.tileAddr idx = 0x8000 + 16 * idx.toNat :=
  if_pos h

theorem tileAddr_signed {v : Lcd} (h : v.lcdc.getLsbD 4 = false) (idx : Byte) :
    (v.tileAddr idx : Int) = 0x9000 + 16 * (idx.toNat - 256 * (idx.getLsbD 7).toNat) := by
  have hidx : idx.toInt = idx.toNat - 256 * (idx.getLsbD 7).toNat := by
    rw [BitVec.toInt_eq_msb_cond, BitVec.msb_eq_getLsbD_last]
    cases idx.getLsbD 7 <;> simp
  have hlt := idx.isLt
  have hbit := (idx.getLsbD 7).toNat_le
  rw [Lcd.tileAddr, Lcd.tileSource, h, if_neg Bool.false_ne_true, hidx]
  omega

/-- Every tile lies in video RAM. -/
theorem le_tileAddr (v : Lcd) (idx : Byte) : 0x8000 ≤ v.tileAddr idx := by
  cases h : v.lcdc.getLsbD 4 with
  | true => rw [tileAddr_unsigned h]; omega
  | false =>
    have haddr := tileAddr_signed h idx
    have hbit := (idx.getLsbD 7).toNat_le
    omega

/-! ### A tile map's pixels (R574) -/

theorem length_tileRow (lo hi : Byte) : (tileRow lo hi).length = 8 := by
  simp [tileRow]

theorem length_flatMap_tiles {f : Nat → Line} (hf : ∀ t, (f t).length = 8) (n : Nat) :
    ((List.range n).flatMap f).length = 8 * n := by
  simp [List.length_flatMap, hf, Nat.mul_comm]

/-- Column `x` of a row of tiles is column `x % 8` of tile `x / 8`. -/
theorem pixelAt_flatMap_tiles {f : Nat → Line} (hf : ∀ t, (f t).length = 8) {n x : Nat}
    (h : x < 8 * n) : pixelAt ((List.range n).flatMap f) x = pixelAt (f (x / 8)) (x % 8) := by
  induction n with
  | zero => omega
  | succ n ih =>
    have hlen := length_flatMap_tiles hf n
    rw [List.range_succ, List.flatMap_append, List.flatMap_singleton]
    by_cases hx : x < 8 * n
    · rw [← ih hx]
      exact List.getD_append _ _ _ _ (by omega)
    · rw [show x / 8 = n by omega, show x % 8 = x - 8 * n by omega, ← hlen]
      exact List.getD_append_right _ _ _ _ (by omega)

theorem length_tileMapLine (v : Lcd) (map row : Nat) : (v.tileMapLine map row).length = 256 :=
  length_flatMap_tiles (fun _ => length_tileRow _ _) 32

theorem pixelAt_tileMapLine (v : Lcd) {map col : Nat} (row : Nat) (hm : 0x8000 ≤ map)
    (hc : col < 256) : pixelAt (v.tileMapLine map row) col = mapPixel v map row col := by
  have hmap : map + 32 * (row / 8) + col / 8 - 0x8000 = map - 0x8000 + 32 * (row / 8) + col / 8 := by
    omega
  have hlo (idx : Byte) :
      v.tileAddr idx + 2 * (row % 8) - 0x8000 = v.tileAddr idx - 0x8000 + 2 * (row % 8) :=
    Nat.sub_add_comm (le_tileAddr v idx)
  have hhi (idx : Byte) :
      v.tileAddr idx + 2 * (row % 8) + 1 - 0x8000 = v.tileAddr idx - 0x8000 + 2 * (row % 8) + 1 := by
    rw [Nat.add_assoc, Nat.add_assoc, Nat.sub_add_comm (le_tileAddr v idx)]
  rw [Lcd.tileMapLine, pixelAt_flatMap_tiles (fun _ => length_tileRow _ _) hc, tileRow,
    pixelAt_range_map _ (Nat.mod_lt col (by decide))]
  simp only [Lcd.vramAt, hmap, hlo, hhi]
  rfl

/-- A tile map's line under a palette. -/
theorem pixelAt_mapped_tileMapLine (v : Lcd) (second : Bool) (row : Nat) {col : Nat} (hc : col < 256) :
    pixelAt ((v.tileMapLine (mapBase second) row).mapColors v.bgp) col =
      (mapPixel v (mapBase second) row col).mapColor v.bgp := by
  rw [pixelAt_mapColors _ (by rwa [length_tileMapLine]), pixelAt_tileMapLine v row ?_ hc]
  cases second <;> decide

/-! ### Background and window (R572, R573) -/

theorem pixelAt_backgroundLine (v : Lcd) (y : Nat) {x : Nat} (hx : x < 160) :
    pixelAt (v.backgroundLine y) x =
      (mapPixel v (mapBase v.bgMap) ((y + v.scy.toNat) % 256) ((x + v.scx.toNat) % 256)).mapColor
        v.bgp := by
  rw [Lcd.backgroundLine, pixelAt_wrapped (w := Config.screenWidth) _ _ hx, Line.length_mapColors,
    length_tileMapLine, pixelAt_mapped_tileMapLine v _ _ (Nat.mod_lt _ (by decide)), Nat.add_comm x]

theorem pixelAt_windowLine {v : Lcd} {x : Nat} (hx : x < 160) (hw : v.windowX ≤ x) :
    pixelAt v.windowLine x =
      (mapPixel v (mapBase v.winMap) v.wline.toNat (x - v.windowX)).mapColor v.bgp := by
  rw [Lcd.windowLine, pixelAt_shifted (w := Config.screenWidth) _ _ hx, Line.length_mapColors,
    length_tileMapLine, if_pos (by omega), ← Int.ofNat_sub hw, Int.toNat_natCast,
    pixelAt_mapped_tileMapLine v _ _ (by omega)]

/-- The line before the window: the background, or transparent pixels without BG_ENABLE. -/
def Lcd.belowWindow (v : Lcd) (y : Nat) : Line :=
  if v.bgEnable then v.backgroundLine y else emptyLine 160

theorem length_belowWindow (v : Lcd) (y : Nat) : (v.belowWindow y).length = 160 := by
  unfold Lcd.belowWindow
  split
  · exact Line.length_wrapped _ _ _
  · exact List.length_replicate

theorem pixelAt_belowWindow (v : Lcd) (y : Nat) {x : Nat} (hx : x < 160) :
    pixelAt (v.belowWindow y) x =
      if v.bgEnable then
        (mapPixel v (mapBase v.bgMap) ((y + v.scy.toNat) % 256) ((x + v.scx.toNat) % 256)).mapColor v.bgp
      else Pixel.clear := by
  unfold Lcd.belowWindow
  split
  · exact pixelAt_backgroundLine v y hx
  · exact pixelAt_emptyLine 160 x

theorem backgroundAndWindow_eq (v : Lcd) (y : Nat) :
    v.backgroundAndWindow y =
      if v.windowDrawn y then Line.join (v.belowWindow y) v.windowLine v.windowX
      else v.belowWindow y :=
  rfl

theorem length_windowLine (v : Lcd) : v.windowLine.length = 160 :=
  Line.length_shifted _ _ _

theorem length_backgroundAndWindow (v : Lcd) (y : Nat) : (v.backgroundAndWindow y).length = 160 := by
  rw [backgroundAndWindow_eq]
  split
  · rw [Line.length_join _ (by rw [length_belowWindow, length_windowLine]), length_belowWindow]
  · exact length_belowWindow v y

/-- The window's pixel from column wx' on of a line that draws it, else the pixel below it. -/
theorem pixelAt_backgroundAndWindow (v : Lcd) (y x : Nat) :
    pixelAt (v.backgroundAndWindow y) x =
      if v.windowDrawn y = true ∧ v.windowX ≤ x then pixelAt v.windowLine x
      else pixelAt (v.belowWindow y) x := by
  rw [backgroundAndWindow_eq]
  by_cases hd : v.windowDrawn y = true
  · rw [if_pos hd, pixelAt_join _ (by rw [length_belowWindow, length_windowLine])]
    by_cases hx : x < v.windowX
    · rw [if_pos hx, if_neg (by omega)]
    · rw [if_neg hx, if_pos ⟨hd, by omega⟩]
  · rw [if_neg hd, if_neg fun h => hd h.1]

theorem windowDrawn_iff (v : Lcd) (y : Nat) :
    v.windowDrawn y = true ↔ v.lcdc.getLsbD 5 = true ∧ v.wy.toNat ≤ y ∧ v.wx.toNat - 7 < 160 := by
  unfold Lcd.windowDrawn
  rw [Bool.and_eq_true, Bool.and_eq_true, decide_eq_true_iff, decide_eq_true_iff, and_assoc]
  rfl

/-- WLINE rises exactly when the window is drawn: a byte never is its own successor. -/
theorem wlineAfter_eq_succ_iff (v : Lcd) (y : Nat) :
    v.wlineAfter y = v.wline + 1 ↔ v.windowDrawn y = true := by
  unfold Lcd.wlineAfter
  split
  · next h => exact iff_of_true rfl h
  · next h => exact iff_of_false (by bv_omega) h

/-- Settles O50: the window's pixel where it is drawn, the background's elsewhere. -/
theorem backgroundAndWindowPixels : Obligations.BackgroundAndWindowPixels := by
  intro v y x hx
  have hdrawn := windowDrawn_iff v y
  refine ⟨length_backgroundAndWindow v y, fun hd hw => ?window, fun h => ?background,
    fun idx h => tileAddr_unsigned h idx, fun idx h => tileAddr_signed h idx,
    (wlineAfter_eq_succ_iff v y).trans hdrawn, fun h => if_neg (hdrawn.not.mpr h)⟩
  case window =>
    rw [pixelAt_backgroundAndWindow, if_pos ⟨hdrawn.mpr hd, hw⟩]
    exact pixelAt_windowLine hx hw
  case background =>
    rw [pixelAt_backgroundAndWindow, if_neg fun hd => h ⟨hdrawn.mp hd.1, hd.2⟩]
    exact pixelAt_belowWindow v y hx

end Sys2Proof.Machine
end

section
/-! PROOFS. Sprite selection and priority (60_exceptions.md R575, R576; O51). The selected sprites are the
first ten of a filtered range; their order is the library's insertion sort by the key (X, index). -/

namespace Sys2Proof.Machine

theorem spriteOnLine_iff (v : Lcd) (y k : Nat) :
    v.spriteOnLine y k = true ↔
      0 ≤ (y : Int) - ((v.oam.read (4 * k)).toNat - 16) ∧
        (y : Int) - ((v.oam.read (4 * k)).toNat - 16) < if v.lcdc.getLsbD 2 then 16 else 8 := by
  have hheight : (v.spriteHeight : Int) = if v.lcdc.getLsbD 2 then 16 else 8 := by
    unfold Lcd.spriteHeight Lcd.objSize
    split <;> rfl
  rw [← hheight]
  exact decide_eq_true_iff

theorem mem_take_singleton {k n m : Nat} : k ∈ [n].take m ↔ k = n ∧ 0 < m := by
  cases m <;> simp

/-- The first `m` members of a filtered range are those that fewer than `m` members precede. -/
theorem mem_take_filter_range (p : Nat → Bool) (m n k : Nat) :
    k ∈ ((List.range n).filter p).take m ↔
      k < n ∧ p k = true ∧ ((List.range k).filter p).length < m := by
  induction n with
  | zero => simp
  | succ n ih =>
    rw [List.range_succ, List.filter_append, List.take_append, List.mem_append, ih, Nat.lt_succ_iff_lt_or_eq]
    cases hp : p n with
    | true =>
      rw [List.filter_cons_of_pos hp, List.filter_nil, mem_take_singleton, Nat.sub_pos_iff_lt]
      constructor
      · rintro (⟨hlt, hk⟩ | ⟨rfl, hm⟩)
        · exact ⟨.inl hlt, hk⟩
        · exact ⟨.inr rfl, hp, hm⟩
      · rintro ⟨hlt | rfl, hk, hm⟩
        · exact .inl ⟨hlt, hk, hm⟩
        · exact .inr ⟨rfl, hm⟩
    | false =>
      rw [List.filter_cons_of_neg (by simp [hp]), List.filter_nil, List.take_nil]
      constructor
      · rintro (⟨hlt, hk⟩ | hnil)
        · exact ⟨.inl hlt, hk⟩
        · cases hnil
      · rintro ⟨hlt | rfl, hk, hm⟩
        · exact .inl ⟨hlt, hk, hm⟩
        · exact absurd (hp.symm.trans hk) Bool.false_ne_true

theorem selectedSprites_pairwise (v : Lcd) (y : Nat) : (v.selectedSprites y).Pairwise (· < ·) :=
  (List.pairwise_lt_range.filter _).sublist (List.take_sublist _ _)

/-! ### The order of priority (R576) -/

theorem spriteBefore_iff (v : Lcd) (j k : Nat) :
    v.spriteBefore j k = true ↔ v.spriteX j < v.spriteX k ∨ (v.spriteX j = v.spriteX k ∧ j < k) := by
  simp [Lcd.spriteBefore]

/-- Sprite `k` does not come before sprite `j`. -/
abbrev Lcd.spriteUpTo (v : Lcd) (j k : Nat) : Prop := v.spriteBefore k j = false

theorem spriteUpTo_iff (v : Lcd) (j k : Nat) :
    v.spriteUpTo j k ↔ v.spriteX j < v.spriteX k ∨ (v.spriteX j = v.spriteX k ∧ j ≤ k) := by
  rw [Lcd.spriteUpTo, ← Bool.not_eq_true, spriteBefore_iff]
  omega

theorem insertSprite_eq_orderedInsert (v : Lcd) (k : Nat) (l : List Nat) :
    v.insertSprite k l = l.orderedInsert v.spriteUpTo k := by
  induction l with
  | nil => rfl
  | cons j rest ih =>
    rw [Lcd.insertSprite, List.orderedInsert_cons, ih]
    by_cases h : v.spriteBefore j k = true
    · rw [if_pos h, if_neg (by simp [h])]
    · rw [if_neg h, if_pos (by simpa using h)]

theorem spritesByPriority_eq_insertionSort (v : Lcd) (y : Nat) :
    v.spritesByPriority y = (v.selectedSprites y).insertionSort v.spriteUpTo := by
  rw [Lcd.spritesByPriority, funext₂ (insertSprite_eq_orderedInsert v)]
  rfl

theorem spritesByPriority_perm (v : Lcd) (y : Nat) :
    (v.spritesByPriority y).Perm (v.selectedSprites y) := by
  rw [spritesByPriority_eq_insertionSort]
  exact List.perm_insertionSort _ _

theorem spritesByPriority_pairwise_upTo (v : Lcd) (y : Nat) :
    (v.spritesByPriority y).Pairwise v.spriteUpTo := by
  have total : Std.Total v.spriteUpTo := ⟨fun j k => by rw [spriteUpTo_iff, spriteUpTo_iff]; omega⟩
  have trans : IsTrans Nat v.spriteUpTo := ⟨fun i j k => by simp only [spriteUpTo_iff]; omega⟩
  rw [spritesByPriority_eq_insertionSort]
  exact List.pairwise_insertionSort _ _

/-- The order is strict: no sprite is selected twice. -/
theorem spritesByPriority_pairwise (v : Lcd) (y : Nat) :
    (v.spritesByPriority y).Pairwise fun j k =>
      v.spriteX j < v.spriteX k ∨ (v.spriteX j = v.spriteX k ∧ j < k) := by
  have hnodup : (v.spritesByPriority y).Nodup :=
    (spritesByPriority_perm v y).nodup_iff.mpr (selectedSprites_pairwise v y).nodup
  refine (hnodup.and (spritesByPriority_pairwise_upTo v y)).imp fun {j k} h => ?_
  obtain ⟨hne, hle⟩ := h
  rw [spriteUpTo_iff] at hle
  omega

/-- Settles O51, from the selection and from the order of the sorted list. -/
theorem spriteSelectionAndPriority : Obligations.SpriteSelectionAndPriority := by
  intro v y
  refine ⟨fun k => ?selected, spriteOnLine_iff v y, List.length_take_le _ _,
    selectedSprites_pairwise v y, spritesByPriority_perm v y, spritesByPriority_pairwise v y⟩
  case selected =>
    have hmem := mem_take_filter_range (v.spriteOnLine y) 10 40 k
    rwa [spriteOnLine_iff] at hmem

end Sys2Proof.Machine
end

section
/-! PROOFS. A sprite's line and the composition of a rendered line (60_exceptions.md R577 to R579; O52, O53).
What a group shows at a column is its first opaque sprite there; the composition chooses between the two
groups and the background pixel by pixel. -/

namespace Sys2Proof.Machine

/-! ### A sprite's line (R577) -/

/-- The two bytes of the tile row that sprite `k` shows on line `y`. -/
def Lcd.spriteRowBytes (v : Lcd) (k y : Nat) : Byte × Byte :=
  let r := v.spriteRow k y
  let index := 16 * (v.spriteRowTile k r).toNat + 2 * (r % 8)
  (v.vram.read index, v.vram.read (index + 1))

/-- The palette of sprite `k`. -/
def Lcd.spritePalette (v : Lcd) (k : Nat) : Byte :=
  if (v.spriteAttr k).getLsbD 4 then v.obp1 else v.obp0

/-- A sprite's line, with the addresses of its row's bytes as indices into video RAM. -/
theorem spriteLine_eq (v : Lcd) (k y : Nat) :
    v.spriteLine k y =
      Line.mapColors ((List.range 160).map fun x =>
        if v.spriteX k ≤ x + 8 ∧ x + 8 < v.spriteX k + 8 then
          spritePixel (v.spriteAttr k) (v.spriteRowBytes k y).1 (v.spriteRowBytes k y).2
            (x + 8 - v.spriteX k)
        else Pixel.clear) (v.spritePalette k) := by
  have hlo (a b : Nat) : 0x8000 + a + b - 0x8000 = a + b := by omega
  have hhi (a b : Nat) : 0x8000 + a + b + 1 - 0x8000 = a + b + 1 := by omega
  simp only [Lcd.spriteLine, Lcd.vramAt, hlo, hhi]
  rfl

theorem length_spriteLine (v : Lcd) (k y : Nat) : (v.spriteLine k y).length = 160 := by
  rw [spriteLine_eq, Line.length_mapColors, List.length_map, List.length_range]

theorem pixelAt_spriteLine (v : Lcd) (k y : Nat) {x : Nat} (hx : x < 160) :
    pixelAt (v.spriteLine k y) x = Pixel.mapColor (v.spritePalette k)
      (if v.spriteX k ≤ x + 8 ∧ x + 8 < v.spriteX k + 8 then
        spritePixel (v.spriteAttr k) (v.spriteRowBytes k y).1 (v.spriteRowBytes k y).2
          (x + 8 - v.spriteX k)
      else Pixel.clear) := by
  rw [spriteLine_eq, pixelAt_mapColors _ (by simpa using hx), pixelAt_range_map _ hx]

/-- Settles O52: inside the eight columns the pixel of its column, outside them a transparent one. -/
theorem spritePixels : Obligations.SpritePixels := by
  intro v k y x _ hx
  refine ⟨length_spriteLine v k y, fun i hi hxi => ?inside, fun hxo => ?outside⟩
  case inside =>
    have hcol : x + 8 = v.spriteX k + i := by
      unfold Lcd.spriteX
      omega
    have hin : v.spriteX k ≤ x + 8 ∧ x + 8 < v.spriteX k + 8 := by omega
    rw [pixelAt_spriteLine v k y hx, if_pos hin, hcol, Nat.add_sub_cancel_left]
    rfl
  case outside =>
    have hcol : ¬(v.spriteX k ≤ x + 8 ∧ x + 8 < v.spriteX k + 8) := by
      unfold Lcd.spriteX
      omega
    rw [pixelAt_spriteLine v k y hx, if_neg hcol]
    rfl

/-! ### The groups and the composition (R578, R579) -/

/-- The sprite that shows at column `x` of a group: the first opaque one in order of priority. -/
def Lcd.topSprite (v : Lcd) (y x : Nat) (group : List Nat) : Option Nat :=
  group.find? fun k => (pixelAt (v.spriteLine k y) x).opa

theorem topSprite_cons (v : Lcd) (y x k : Nat) (rest : List Nat) :
    v.topSprite y x (k :: rest) =
      if (pixelAt (v.spriteLine k y) x).opa then some k else v.topSprite y x rest := by
  rw [Lcd.topSprite, List.find?_cons]
  cases (pixelAt (v.spriteLine k y) x).opa <;> rfl

theorem length_groupLine (v : Lcd) (y : Nat) (group : List Nat) :
    (v.groupLine y group).length = 160 := by
  induction group with
  | nil => exact List.length_replicate
  | cons k rest ih =>
    exact (Line.length_over (ih.trans (length_spriteLine v k y).symm)).trans ih

theorem Pixel.over_opa (lower upper : Pixel) : (lower.over upper).opa = (lower.opa || upper.opa) := rfl

theorem Pixel.over_color (lower upper : Pixel) :
    (lower.over upper).color = (if upper.opa then upper else lower).color := rfl

theorem Pixel.overWhere_color (lower upper : Pixel) (m : Bool) :
    (lower.overWhere upper m).color = (if m then upper else lower).color := rfl

theorem pixelAt_groupLine_cons (v : Lcd) (y k : Nat) (rest : List Nat) {x : Nat} (hx : x < 160) :
    pixelAt (v.groupLine y (k :: rest)) x =
      (pixelAt (v.groupLine y rest) x).over (pixelAt (v.spriteLine k y) x) :=
  pixelAt_over (hx.trans_eq (length_groupLine v y rest).symm)
    (hx.trans_eq (length_spriteLine v k y).symm)

/-- A group's pixel is opaque where the group has a top sprite. -/
theorem groupLine_opa (v : Lcd) (y : Nat) (group : List Nat) {x : Nat} (hx : x < 160) :
    (pixelAt (v.groupLine y group) x).opa = (v.topSprite y x group).isSome := by
  induction group with
  | nil => exact congrArg Pixel.opa (pixelAt_emptyLine 160 x)
  | cons k rest ih =>
    rw [pixelAt_groupLine_cons v y k rest hx, Pixel.over_opa, topSprite_cons, ih]
    cases (pixelAt (v.spriteLine k y) x).opa <;> simp

/-- Where a group has a top sprite, it shows that sprite's colour. -/
theorem groupLine_color {v : Lcd} {y x k : Nat} {group : List Nat} (hx : x < 160)
    (hk : v.topSprite y x group = some k) :
    (pixelAt (v.groupLine y group) x).color = (pixelAt (v.spriteLine k y) x).color := by
  induction group with
  | nil => cases hk
  | cons j rest ih =>
    rw [topSprite_cons] at hk
    rw [pixelAt_groupLine_cons v y j rest hx, Pixel.over_color]
    split_ifs at hk ⊢
    · cases hk
      rfl
    · exact ih hk

theorem length_composite {bg below above : Line} (hb : bg.length = 160) (hl : below.length = 160)
    (ha : above.length = 160) : (composite bg below above).length = 160 := by
  simp [composite, Line.over, Line.overWhere, hb, hl, ha]

/-- A composed pixel: the above-group's, else the below-group's behind a transparent background, else the
background's. -/
theorem composite_color {bg below above : Line} {x : Nat} (hb : bg.length = 160) (hl : below.length = 160)
    (ha : above.length = 160) (hx : x < 160) :
    (pixelAt (composite bg below above) x).color =
      if (pixelAt above x).opa then (pixelAt above x).color
      else if (pixelAt below x).opa = true ∧ (pixelAt bg x).opa = false then (pixelAt below x).color
      else (pixelAt bg x).color := by
  have hmask : (List.zipWith (fun (p q : Pixel) => p.opa && !q.opa) below bg).getD x false =
      ((pixelAt below x).opa && !(pixelAt bg x).opa) := by
    rw [List.getD_eq_getElem _ _ (by simp [hb, hl, hx]), List.getElem_zipWith,
      pixelAt_of_lt (by omega), pixelAt_of_lt (by omega)]
  rw [composite, pixelAt_over (by simp [Line.overWhere, hb, hl, hx]) (by omega),
    pixelAt_overWhere (by omega) (by omega) (by simp [hb, hl, hx]), hmask, Pixel.over_color]
  split
  · rfl
  · rw [Pixel.overWhere_color]
    cases (pixelAt below x).opa <;> cases (pixelAt bg x).opa <;> rfl

/-- The sprites drawn on a line in the group with this priority bit. -/
def Lcd.drawnGroup (v : Lcd) (y : Nat) (behind : Bool) : List Nat :=
  if v.objEnable then (v.spritesByPriority y).filter fun k => (v.spriteAttr k).getLsbD 7 == behind
  else []

theorem renderLine_eq (v : Lcd) (y : Nat) :
    v.renderLine y = composite (v.backgroundAndWindow y) (v.groupLine y (v.drawnGroup y true))
      (v.groupLine y (v.drawnGroup y false)) := by
  unfold Lcd.renderLine Lcd.drawnGroup
  cases v.objEnable
  · rfl
  · simp [Lcd.spriteGroups]

theorem topSprite_drawnGroup (v : Lcd) (y x : Nat) (behind : Bool) :
    v.topSprite y x (v.drawnGroup y behind) =
      if v.lcdc.getLsbD 1 then
        (v.spritesByPriority y).find? fun k => (v.oam.read (4 * k + 3)).getLsbD 7 == behind &&
          (pixelAt (v.spriteLine k y) x).opa
      else none := by
  unfold Lcd.topSprite Lcd.drawnGroup Lcd.objEnable
  split
  · rw [List.find?_filter]
    simp only [Bool.decide_and, Bool.decide_eq_true]
    rfl
  · rfl

/-- Settles O53, by whether the above-group, then the below-group, has a sprite at the column. -/
theorem spritesAndCompositionOfALine : Obligations.SpritesAndCompositionOfALine := by
  intro v y x hx
  have hbg := length_backgroundAndWindow v y
  have hbelow := length_groupLine v y (v.drawnGroup y true)
  have habove := length_groupLine v y (v.drawnGroup y false)
  simp only [← topSprite_drawnGroup]
  rw [renderLine_eq]
  refine ⟨length_composite hbg hbelow habove, ?_⟩
  rw [composite_color hbg hbelow habove hx, groupLine_opa v y _ hx, groupLine_opa v y _ hx]
  cases ha : v.topSprite y x (v.drawnGroup y false) with
  | some k => exact groupLine_color hx ha
  | none =>
    cases hl : v.topSprite y x (v.drawnGroup y true) with
    | none => rfl
    | some k =>
      cases (pixelAt (v.backgroundAndWindow y) x).opa with
      | true => rfl
      | false => exact groupLine_color hx hl

end Sys2Proof.Machine
end

section
/-! PROOFS. The joypad (60_exceptions.md section 5; O54). A key event and a write of P1 both replace the lines
or the select bits and then recompute the key bits; `afterSelect` says what that gives. -/

namespace Sys2Proof.Machine

/-! ### The two fields of P1I (R61) -/

theorem p1i_eq_append (p : BitVec 6) : p.extractLsb' 4 2 ++ p.extractLsb' 0 4 = p := by
  revert p
  decide

theorem select_extract (select : BitVec 2) (keys : BitVec 4) :
    (select ++ keys).extractLsb' 4 2 = select := by
  revert select keys
  decide

theorem keys_extract (select : BitVec 2) (keys : BitVec 4) :
    (select ++ keys).extractLsb' 0 4 = keys := by
  revert select keys
  decide

/-- The key bits of the selected lines; with none selected they keep their value (R592). -/
theorem keyBits_eq (line0 line1 : BitVec 4) (select : BitVec 2) (keys : BitVec 4) :
    Joypad.keyBits { line0 := line0, line1 := line1, p1i := select ++ keys } =
      if select = 0 then keys
      else (if select.getLsbD 0 then line0 else 0) ||| (if select.getLsbD 1 then line1 else 0) := by
  have hsel4 : (select ++ keys).getLsbD 4 = select.getLsbD 0 := BitVec.getLsbD_append
  have hsel5 : (select ++ keys).getLsbD 5 = select.getLsbD 1 := BitVec.getLsbD_append
  have hnone : ∀ q : BitVec 2, (q.getLsbD 0 || q.getLsbD 1) = true ↔ ¬q = 0 := by decide
  unfold Joypad.keyBits
  simp only [hsel4, hsel5, hnone, keys_extract, ite_not]

/-- Recomputing from these lines and select bits (R592). -/
theorem recompute_eq_afterSelect (s : State) (line0 line1 : BitVec 4) (select : BitVec 2) :
    State.recompute { s with joypad :=
        { line0 := line0, line1 := line1, p1i := select ++ s.joypad.p1i.extractLsb' 0 4 } } s.joypad.p1i =
      afterSelect s line0 line1 select := by
  unfold State.recompute Joypad.recomputed afterSelect
  simp only [keyBits_eq, select_extract, ite_not, ne_eq]
  generalize select ++ (if select = 0 then _ else _ : BitVec 4) = p1i
  split <;> rfl

/-! ### Key events (R590, R591) -/

/-- A key's line and bit, from its position in the key set. -/
theorem key_of_position {q : Nat} {k : Key}
    (h : [Key.right, .left, .up, .down, .a, .b, .select, .start][q]? = some k) :
    k.inLine0 = decide (q < 4) ∧ k.mask = 1#4 <<< (q % 4) := by
  obtain ⟨hq, hk⟩ := List.getElem?_eq_some_iff.mp h
  subst hk
  clear h
  have hq8 : q < 8 := hq
  interval_cases q <;> exact ⟨rfl, rfl⟩

theorem keyPressed_eq (k : Key) (s : State) :
    keyPressed k s = afterSelect s
      (if k.inLine0 then s.joypad.line0 ||| k.mask else s.joypad.line0)
      (if k.inLine0 then s.joypad.line1 else s.joypad.line1 ||| k.mask)
      (s.joypad.p1i.extractLsb' 4 2) := by
  rw [← recompute_eq_afterSelect, p1i_eq_append]
  cases k <;> rfl

theorem keyReleased_eq (k : Key) (s : State) :
    keyReleased k s = afterSelect s
      (if k.inLine0 then s.joypad.line0 &&& ~~~k.mask else s.joypad.line0)
      (if k.inLine0 then s.joypad.line1 else s.joypad.line1 &&& ~~~k.mask)
      (s.joypad.p1i.extractLsb' 4 2) := by
  rw [← recompute_eq_afterSelect, p1i_eq_append]
  cases k <;> rfl

/-- Settles O54: the write of P1 replaces the select bits, a key event one bit of its line. -/
theorem keyEventsAndWritesOfP1 : Obligations.KeyEventsAndWritesOfP1 := by
  refine ⟨fun s v => ?write, fun s q k hq => ?keys⟩
  case write =>
    rw [← recompute_eq_afterSelect]
    exact busWrite_joypad v (by decide)
  case keys =>
    obtain ⟨hline, hmask⟩ := key_of_position hq
    rw [keyPressed_eq, keyReleased_eq, hline, hmask]
    constructor <;> simp only [decide_eq_true_eq]

end Sys2Proof.Machine
end

section
/-! PROOFS. The CPU's turn in a step and the host's RunUntil (60_exceptions.md sections 1, 2 and 6; O38, O39,
O55). A step of a machine without a fault is a next state with T one higher; RunUntil is then a number of
steps, by induction on it. -/

namespace Sys2Proof.Machine

@[simp] theorem wakeUp_cycle (s : State) : (wakeUp s).cycle = s.cycle := by
  unfold wakeUp
  split <;> rfl

/-! ### Executing the decoded instruction (R504) -/

/-- What `decode` answers for the three bytes at PC is the instruction fetched there. -/
theorem fetchInstr_of_decode {s : State} {i : Instr} {rest : List Byte}
    (h : decode [s.busRead s.cpu.pc, s.busRead (s.cpu.pc + 1), s.busRead (s.cpu.pc + 2)] =
      .ok (i, rest)) : fetchInstr s = i := by
  rw [decode] at h
  split at h
  · cases h
  · cases h
    rfl

theorem serviceOrExecute_of_no_service {s : State} (h : s.serviceable = none) :
    serviceOrExecute s = exec (fetchInstr s) s := by
  rw [serviceOrExecute, h]
  rfl

/-- Settles O38: a due CPU with no interrupt to service executes what it fetches. -/
theorem aStepRunsTheDecodedInstruction : Obligations.AStepRunsTheDecodedInstruction := by
  intro s i rest d hf hw hs hd
  rw [step_of_due hf hw, serviceOrExecute_of_no_service hs, fetchInstr_of_decode hd]
  cases exec i d <;> rfl

/-! ### Servicing an interrupt (R512 to R514) -/

/-- The pending source with no lower one pending is the one chosen (R513). -/
theorem highestPriority_eq_some {p : BitVec 5} {i : IntSource} (hi : p.getLsbD i.index = true)
    (hlow : ∀ j < i.index, p.getLsbD j = false) : highestPriority p = some i := by
  have low (j : Nat) (hj : j < i.index) : ¬p.getLsbD j = true := by
    rw [hlow j hj]
    exact Bool.false_ne_true
  unfold highestPriority
  cases i with
  | vblank => exact if_pos hi
  | lcdStat => exact (if_neg (low 0 (by decide))).trans (if_pos hi)
  | timer =>
    rw [if_neg (low 0 (by decide)), if_neg (low 1 (by decide))]
    exact if_pos hi
  | serial =>
    rw [if_neg (low 0 (by decide)), if_neg (low 1 (by decide)), if_neg (low 2 (by decide))]
    exact if_pos hi
  | joypad =>
    rw [if_neg (low 0 (by decide)), if_neg (low 1 (by decide)), if_neg (low 2 (by decide)),
      if_neg (low 3 (by decide))]
    exact if_pos hi

theorem IntSource.vector_eq (i : IntSource) : i.vector = BitVec.ofNat 16 (0x40 + 8 * i.index) := by
  cases i <;> rfl

/-- A service up to the jump: IME and the request cleared, PC pushed (R514). -/
def State.servicePushed (s : State) (i : IntSource) : State :=
  let cleared := { s with cpu := { s.cpu with
    ime := false, iflag := s.cpu.iflag &&& ~~~(1#5 <<< i.index), sp := s.cpu.sp - 2 } }
  (cleared.busWrite (s.cpu.sp - 2) (s.cpu.pc.extractLsb' 0 8)).busWrite (s.cpu.sp - 1)
    (s.cpu.pc.extractLsb' 8 8)

theorem service_eq (i : IntSource) (s : State) :
    service i s = (s.servicePushed i).retire (BitVec.ofNat 16 (0x40 + 8 * i.index)) 5 := by
  rw [service, push16_eq_busWrite_busWrite, IntSource.mask_eq_twoPow, BitVec.twoPow_eq,
    IntSource.vector_eq]
  rfl

theorem servicePushed_wake (s : State) (i : IntSource) :
    (s.servicePushed i).cpu.wake = s.cpu.wake :=
  ((busWrite_change _ _ _).trans (busWrite_change _ _ _)).wake

theorem servicePushed_cycle (s : State) (i : IntSource) : (s.servicePushed i).cycle = s.cycle :=
  ((busWrite_change _ _ _).trans (busWrite_change _ _ _)).cycle

theorem serviceOrExecute_of_service {s : State} {i : IntSource} (h : s.serviceable = some i) :
    serviceOrExecute s = .next (service i s) := by
  rw [serviceOrExecute, h]

/-- Settles O39: the due CPU services the source chosen, and the tick is counted. -/
theorem aStepServicesTheLowestPendingInterrupt :
    Obligations.AStepServicesTheLowestPendingInterrupt := by
  intro s i d hf hw hime hi hlow cleared pushed
  have hserve : d.serviceable = some i := by
    rw [State.serviceable, if_pos hime]
    exact highestPriority_eq_some hi hlow
  have hwake : (d.servicePushed i).cpu.wake = some s.cycle := (servicePushed_wake d i).trans hw
  have hcycle : (d.servicePushed i).cycle = s.cycle := by
    rw [servicePushed_cycle, wakeUp_cycle, deviceSteps_cycle]
  rw [step_of_due hf hw, serviceOrExecute_of_service hserve, service_eq, endTick, State.advanceCycle,
    State.retire, hwake, hcycle]
  rfl

/-! ### A step as a next state (R40, R500) -/

theorem Ends.next {i : Instr} {s : State} {r : Result State} (h : Ends i s r) : ∃ t, r = .next t := by
  cases h with
  | retires hret => cases hret with | retire _ npc n _ => exact ⟨_, rfl⟩
  | halts _ => exact ⟨_, rfl⟩
  | faults _ r => exact ⟨_, rfl⟩

theorem cpuStep_next (s : State) : ∃ t, cpuStep s = .next t := by
  unfold cpuStep serviceOrExecute
  split
  · split
    · exact ⟨_, rfl⟩
    · exact (exec_ends _ _).next
  · exact ⟨_, rfl⟩

theorem step_next_of_no_fault {s : State} (hf : s.fault = none) : ∃ t, step s = .next t := by
  obtain ⟨t, ht⟩ := cpuStep_next (deviceSteps s)
  exact ⟨t.advanceCycle, by rw [step_of_no_fault hf, ht, endTick]⟩

theorem step_of_fault {s : State} {r : FaultRecord} (hf : s.fault = some r) :
    step s = .fault (.fatal r) := by
  unfold step tick
  rw [hf]

theorem Moves.cycle {s t : State} {ws : List Word} (h : Moves s ws t) : t.cycle = s.cycle := by
  induction h with
  | refl => rfl
  | busWrite _ a v ih => exact (busWrite_change _ a v).cycle.trans ih
  | _ => assumption

/-- The CPU's turn does not count the tick. -/
theorem CpuTurn.cycle {s t : State} (h : CpuTurn s t) : t.cycle = s.cycle := by
  cases h with
  | idle _ => rfl
  | serviced i _ _ =>
    rw [service_eq, State.retire_cycle, servicePushed_cycle]
  | executed _ _ _ he =>
    rcases exec_next_cases he with ⟨u, npc, n, hm, _, _, rfl⟩ | ⟨_, rfl⟩ | ⟨_, r, rfl⟩
    · exact hm.cycle
    · rfl
    · rfl

theorem step_cycle {s t : State} (h : step s = .next t) : t.cycle = s.cycle + 1 := by
  obtain ⟨_, u, hu, rfl⟩ := step_cases h
  rw [State.advanceCycle_cycle, hu.cycle, wakeUp_cycle, deviceSteps_cycle]

/-! ### Runs of a number of steps (R601) -/

theorem runTicks_succ {s t : State} (h : step s = .next t) (n : Nat) :
    runTicks (n + 1) s = runTicks n t := by
  rw [runTicks, h]

theorem runTicks_of_fault {s : State} {r : FaultRecord} (hf : s.fault = some r) (n : Nat) :
    runTicks n s = s := by
  cases n with
  | zero => rfl
  | succ n => rw [runTicks, step_of_fault hf]

theorem runTicks_add (m n : Nat) (s : State) : runTicks (m + n) s = runTicks n (runTicks m s) := by
  induction m generalizing s with
  | zero => rw [Nat.zero_add, runTicks]
  | succ m ih =>
    cases hf : s.fault with
    | none =>
      obtain ⟨t, ht⟩ := step_next_of_no_fault hf
      rw [Nat.add_right_comm, runTicks_succ ht, runTicks_succ ht, ih]
    | some r => rw [runTicks_of_fault hf, runTicks_of_fault hf, runTicks_of_fault hf]

/-- A run ends within its number of steps, and at the last one unless it faults. -/
theorem runTicks_cycle (n : Nat) (s : State) :
    ((runTicks n s).fault = none → (runTicks n s).cycle = s.cycle + n) ∧
      (runTicks n s).cycle ≤ s.cycle + n := by
  induction n generalizing s with
  | zero => exact ⟨fun _ => rfl, le_rfl⟩
  | succ n ih =>
    cases hf : s.fault with
    | none =>
      obtain ⟨t, ht⟩ := step_next_of_no_fault hf
      have hcycle : t.cycle + n = s.cycle + (n + 1) := by
        rw [step_cycle ht]
        omega
      rw [runTicks_succ ht, ← hcycle]
      exact ih t
    | some r =>
      rw [runTicks_of_fault hf]
      exact ⟨fun h => absurd (hf.symm.trans h) (Option.some_ne_none r), Nat.le_add_right _ _⟩

theorem runUntil_of_le {s : State} {c : Nat} (h : s.cycle ≤ c) :
    runUntil c s = runTicks (c - s.cycle) s :=
  if_neg (Nat.not_lt.mpr h)

theorem runUntil_of_step {s t : State} {c : Nat} (hc : s.cycle < c) (ht : step s = .next t) :
    runUntil c s = runUntil c t := by
  have hcycle := step_cycle ht
  rw [runUntil_of_le hc.le, runUntil_of_le (by omega), hcycle, ← runTicks_succ ht]
  congr 1
  omega

theorem runUntil_cycle {s : State} {c : Nat} (h : s.cycle ≤ c) :
    ((runUntil c s).fault = none → (runUntil c s).cycle = c) ∧ (runUntil c s).cycle ≤ c := by
  have hrun := runTicks_cycle (c - s.cycle) s
  rwa [← runUntil_of_le h, Nat.add_sub_cancel' h] at hrun

/-- Stopping at a cycle between is no detour. -/
theorem runUntil_runUntil {s : State} {c c' : Nat} (h : s.cycle ≤ c) (h' : c ≤ c')
    (hf : (runUntil c s).fault = none) : runUntil c' (runUntil c s) = runUntil c' s := by
  have hcycle := (runUntil_cycle h).1 hf
  rw [runUntil_of_le (hcycle.trans_le h'), hcycle, runUntil_of_le h, ← runTicks_add,
    runUntil_of_le (h.trans h')]
  congr 1
  omega

/-- Settles O55, clause by clause. -/
theorem runUntilProcessesTheCyclesBeforeItsBound :
    Obligations.RunUntilProcessesTheCyclesBeforeItsBound := by
  refine ⟨fun s c hc => if_pos hc, fun s => ?present, fun s t c hc ht => runUntil_of_step hc ht,
    fun s c h => runUntil_cycle h, fun s c c' h h' _ hf => runUntil_runUntil h h' hf,
    fun s c r h hf => ?faulted⟩
  case present => rw [runUntil_of_le le_rfl, Nat.sub_self, runTicks]
  case faulted => rw [runUntil_of_le h, runTicks_of_fault hf]

end Sys2Proof.Machine
end

section
/-! PROOFS. The decoder and the encoder (30_encoding.md sections 1 to 4; O7 to O11). Two lemmas go through the
tables, one a row at a time and one a byte at a time: an instruction's own bytes decode to it, and the bytes of
a decoded instruction are those it was decoded from. The statements follow from these two and from the length
that the first byte fixes. -/

namespace Sys2Proof.Machine

/-! ### Lengths (R120) -/

theorem lengthOf_bounds (b0 : Byte) : 1 ≤ lengthOf b0 ∧ lengthOf b0 ≤ 3 := by
  unfold lengthOf
  split
  · decide
  · split <;> decide

theorem decode_of_lt {b0 : Byte} {rest : List Byte} (h : rest.length + 1 < lengthOf b0) :
    decode (b0 :: rest) = .error (.truncated b0) :=
  if_pos h

theorem decode_of_le {b0 : Byte} {rest : List Byte} (h : lengthOf b0 ≤ rest.length + 1) :
    decode (b0 :: rest) =
      .ok (decode3 b0 (rest.getD 0 0) (rest.getD 1 0), rest.drop (lengthOf b0 - 1)) :=
  if_neg (Nat.not_lt.mpr h)

theorem decode_cons_eq_ok {b0 : Byte} {rest rest' : List Byte} {i : Instr}
    (h : decode (b0 :: rest) = .ok (i, rest')) :
    lengthOf b0 ≤ rest.length + 1 ∧ i = decode3 b0 (rest.getD 0 0) (rest.getD 1 0) ∧
      rest' = rest.drop (lengthOf b0 - 1) := by
  by_cases hl : rest.length + 1 < lengthOf b0
  · rw [decode_of_lt hl] at h
    cases h
  · rw [decode_of_le (by omega)] at h
    cases h
    exact ⟨by omega, rfl, rfl⟩

/-! ### An encoded instruction decodes to itself -/

/-- The instruction whose bytes are exactly these, followed by `rest`; an empty string, which is none, gives
NOP. -/
def decodeFilled (rest : List Byte) : List Byte → Instr
  | [] => .nop
  | [b0] => decode3 b0 (rest.getD 0 0) (rest.getD 1 0)
  | [b0, b1] => decode3 b0 b1 (rest.getD 0 0)
  | b0 :: b1 :: b2 :: _ => decode3 b0 b1 b2

theorem decode_filled {bytes : List Byte} (rest : List Byte) (h : wellFormedBytes bytes = true) :
    decode (bytes ++ rest) = .ok (decodeFilled rest bytes, rest) := by
  cases bytes with
  | nil => cases h
  | cons b0 tail =>
    have hlen : tail.length + 1 = lengthOf b0 := beq_iff_eq.mp h
    have hmax : tail.length ≤ 2 := by have := (lengthOf_bounds b0).2; omega
    rw [List.cons_append, decode_of_le (by rw [List.length_append]; omega), ← hlen,
      Nat.add_sub_cancel, List.drop_left]
    match tail, hmax with
    | [], _ => rfl
    | [_], _ => rfl
    | [_, _], _ => rfl

theorem wellFormedBytes_encode (i : Instr) : wellFormedBytes (encode i) = true := by
  cases i <;> rfl

/-- Row by row; the rows with a 16-bit immediate put its two bytes together again. -/
theorem decodeFilled_encode (i : Instr) (rest : List Byte) : decodeFilled rest (encode i) = i := by
  cases i
  case ld_bc_n16 nn | ld_atN16_sp nn | ld_de_n16 nn | ld_hl_n16 nn | ld_sp_n16 nn | jp_nz_n16 nn
      | jp_n16 nn | call_nz_n16 nn | jp_z_n16 nn | call_z_n16 nn | call_n16 nn | jp_nc_n16 nn
      | call_nc_n16 nn | jp_c_n16 nn | call_c_n16 nn | ld_atN16_a nn | ld_a_atN16 nn =>
    exact congrArg _ (immWord_imm nn)
  all_goals rfl

theorem decode_encode_append (i : Instr) (rest : List Byte) :
    decode (encode i ++ rest) = .ok (i, rest) := by
  rw [decode_filled rest (wellFormedBytes_encode i), decodeFilled_encode]

/-! ### The bytes of a decoded instruction -/

theorem encode_decodePrefixed (o : Byte) : encode (decodePrefixed o) = [0xCB, o] := by
  revert o
  decide

/-- Byte by byte, with the two bytes of a 16-bit immediate as they come back from it; 0xCB is the one byte
whose instruction depends on the next byte. -/
theorem encode_decode3_imm (b0 b1 b2 : Byte) :
    encode (decode3 b0 b1 b2) =
      if lengthOf b0 = 3 then [b0, immLo (immWord b1 b2), immHi (immWord b1 b2)]
      else [b0, b1].take (lengthOf b0) := by
  by_cases hb : b0 = 0xCB
  · subst hb
    exact encode_decodePrefixed b1
  · obtain ⟨n, hn, rfl⟩ : ∃ n < 256, b0 = BitVec.ofNat 8 n := ⟨b0.toNat, b0.isLt, by simp⟩
    interval_cases n
    on_goal 204 => exact absurd rfl hb
    all_goals rfl

theorem encode_decode3 (b0 b1 b2 : Byte) :
    encode (decode3 b0 b1 b2) = [b0, b1, b2].take (lengthOf b0) := by
  rw [encode_decode3_imm, immLo_immWord, immHi_immWord]
  have ⟨h1, h3⟩ := lengthOf_bounds b0
  generalize lengthOf b0 = n at h1 h3 ⊢
  interval_cases n <;> rfl

/-- Taking no more than is there, the default of a missing byte does not matter. -/
theorem take_getD_getD {b0 : Byte} {rest : List Byte} {n : Nat} (hn : n ≤ 3)
    (h : n ≤ rest.length + 1) :
    [b0, rest.getD 0 0, rest.getD 1 0].take n = (b0 :: rest).take n := by
  match rest with
  | [] =>
    have hn : n ≤ 1 := h
    interval_cases n <;> rfl
  | [_] =>
    have hn : n ≤ 2 := h
    interval_cases n <;> rfl
  | _ :: _ :: _ => interval_cases n <;> rfl

theorem encode_of_decode {b0 : Byte} {rest rest' : List Byte} {i : Instr}
    (h : decode (b0 :: rest) = .ok (i, rest')) :
    encode i = (b0 :: rest).take (lengthOf b0) ∧ rest' = (b0 :: rest).drop (lengthOf b0) := by
  obtain ⟨hl, rfl, rfl⟩ := decode_cons_eq_ok h
  refine ⟨?_, ?_⟩
  · rw [encode_decode3, take_getD_getD (lengthOf_bounds b0).2 hl]
  · have := (lengthOf_bounds b0).1
    rw [List.drop_cons (by omega)]

theorem encode_append_of_decode {bytes rest : List Byte} {i : Instr}
    (h : decode bytes = .ok (i, rest)) : bytes = encode i ++ rest := by
  cases bytes with
  | nil => cases h
  | cons b0 tail =>
    obtain ⟨hi, rfl⟩ := encode_of_decode h
    rw [hi, List.take_append_drop]

/-! ### The bytes that are not instructions (R132) -/

theorem encode_illegalRow {row : Byte × Instr} (h : row ∈ illegalRows) : encode row.2 = [row.1] := by
  revert row
  decide

theorem mem_illegalRows_iff_of_decode {b0 : Byte} {rest rest' : List Byte} {i : Instr}
    (h : decode (b0 :: rest) = .ok (i, rest')) :
    i ∈ illegalRows.map Prod.snd ↔ b0 ∈ illegalRows.map Prod.fst := by
  simp only [List.mem_map]
  constructor
  · rintro ⟨row, hrow, rfl⟩
    have hbytes := encode_append_of_decode h
    rw [encode_illegalRow hrow] at hbytes
    exact ⟨row, hrow, (List.cons.inj hbytes).1.symm⟩
  · rintro ⟨row, hrow, rfl⟩
    have hrow' := decode_encode_append row.2 rest
    rw [encode_illegalRow hrow] at hrow'
    exact ⟨row, hrow, congrArg Prod.fst (Except.ok.inj (hrow'.symm.trans h))⟩

/-! ### The statements -/

/-- Settles O7: an encoding is one instruction's bytes, and these decode to it row by row. -/
theorem decodingAnEncodedInstructionGivesItBack :
    Obligations.DecodingAnEncodedInstructionGivesItBack := decode_encode_append

/-- Settles O8: the decoded instruction's bytes are those taken, and the rest is what is left. -/
theorem encodingADecodedInstructionGivesItsBytes :
    Obligations.EncodingADecodedInstructionGivesItsBytes := fun _ _ _ => encode_append_of_decode

/-- Settles O9: of a long enough string the bytes of the fixed length are the instruction's encoding. -/
theorem theFirstByteFixesTheLength : Obligations.TheFirstByteFixesTheLength := by
  refine ⟨rfl, rfl, fun b0 rest => ⟨lengthOf_bounds b0, decode_of_lt, fun hl => ?_⟩⟩
  have hok := decode_of_le hl
  obtain ⟨hi, hrest⟩ := encode_of_decode hok
  exact ⟨_, by rw [← hrest, hok], hi⟩

/-- Settles O10: an ILLEGAL row is encoded as its own byte, so by O7 and O8 it is decoded from that byte
alone. -/
theorem elevenBytesAreNotInstructions : Obligations.ElevenBytesAreNotInstructions :=
  ⟨rfl, fun _ _ _ _ => mem_illegalRows_iff_of_decode⟩

/-- Settles O11: each word is its instruction's encoding, written out. -/
theorem specWordsDecodeToTheirInstructions : Obligations.SpecWordsDecodeToTheirInstructions :=
  ⟨decode_encode_append .ld_c_b [], decode_encode_append (.ld_b_n8 0x08) [],
    decode_encode_append (.ld_a_atN16 0xC100) [], decode_encode_append .adc_a_b [],
    decode_encode_append .add_hl_bc [], decode_encode_append .bit_7_atHL [],
    decode_encode_append (.jp_c_n16 0x1234) [], decode_encode_append .rst_28 [],
    decode_encode_append .halt []⟩

end Sys2Proof.Machine
end

section
/-! PROOFS. Read after write on the bus (20_memory.md sections 1 to 3; O5). First what a write of each device
changes, register by register; then, component by component, that a read elsewhere does not see it. -/

namespace Sys2Proof.Machine

/-! ### What a write of a device changes -/

/-- Looking for a falling edge changes TIMA and IF alone (R532). -/
theorem incIfFalling_eq (s : State) (before : Bool) : ∃ tima iflag, s.incIfFalling before =
    { s with timer := { s.timer with tima := tima }, cpu := { s.cpu with iflag := iflag } } := by
  unfold State.incIfFalling
  split_ifs <;> exact ⟨_, _, rfl⟩

/-- A write reaches the timer register it names; writing DIV or TAC may also step TIMA and request TIMER
(R534 to R537). -/
theorem timerWrite_eq (s : State) (w : Nat) (v : Byte) : ∃ divc tima tma tac iflag,
    timerWrite s w v = { s with
      timer := { divc := divc, tima := tima, tma := tma, tac := tac }
      cpu := { s.cpu with iflag := iflag } } ∧
    (divc = s.timer.divc ∨ w = 0xFF04 ∧ divc = 0) ∧
    (tima = s.timer.tima ∨ w = 0xFF05 ∨ w = 0xFF04 ∨ w = 0xFF07) ∧
    (tma = s.timer.tma ∨ w = 0xFF06) ∧ (tac = s.timer.tac ∨ w = 0xFF07) ∧
    (iflag = s.cpu.iflag ∨ w = 0xFF04 ∨ w = 0xFF07) := by
  unfold timerWrite
  split_ifs with hdiv htima htma htac
  · obtain ⟨tima, iflag, h⟩ :=
      incIfFalling_eq { s with timer := { s.timer with divc := 0 } } s.timer.signal
    exact ⟨_, _, _, _, _, h, by simp [hdiv]⟩
  · exact ⟨_, _, _, _, _, rfl, by simp [htima]⟩
  · exact ⟨_, _, _, _, _, rfl, by simp [htma]⟩
  · obtain ⟨tima, iflag, h⟩ :=
      incIfFalling_eq { s with timer := { s.timer with tac := v } } s.timer.signal
    exact ⟨_, _, _, _, _, h, by simp [htac]⟩
  · exact ⟨_, _, _, _, _, rfl, by simp⟩

theorem compareLine_eq (s : State) :
    s.compareLine = { s with
      lcd := { s.lcd with stat := statWithMatch s.lcd.stat (s.lcd.ly == s.lcd.lyc) }
      cpu := { s.cpu with
        iflag := requested s.cpu.iflag .lcdStat (s.lcd.matchRaises s.lcd.ly) } } :=
  setLine_eq s s.lcd.ly

/-- Writing LCDC changes it and, at power-on or power-off, the mode state machine, STAT, LY and IF (R551,
R552). -/
theorem writeLcdc_eq (s : State) (v : Byte) : ∃ stat ly phase next frameBuf iflag,
    s.writeLcdc v = { s with
      lcd := { s.lcd with
        lcdc := v, stat := stat, ly := ly, phase := phase, next := next, frameBuf := frameBuf }
      cpu := { s.cpu with iflag := iflag } } := by
  unfold State.writeLcdc
  dsimp only
  split_ifs
  · exact ⟨_, _, _, _, _, _, rfl⟩
  · rw [setLine_eq]
    exact ⟨_, _, _, _, _, _, rfl⟩
  · exact ⟨_, _, _, _, _, _, rfl⟩

/-- Every write of the LCD controller is one of these. -/
theorem lcdWrite_induction {motive : Nat → State → Prop} (s : State) (v : Byte)
    (vram : ∀ w, 0x8000 ≤ w ∧ w < 0xA000 →
      motive w { s with lcd := { s.lcd with vram := s.lcd.vram.write (w - 0x8000) v } })
    (oam : ∀ w, 0xFE00 ≤ w ∧ w < 0xFEA0 →
      motive w { s with lcd := { s.lcd with oam := s.lcd.oam.write (w - 0xFE00) v } })
    (lcdc : motive 0xFF40 (s.writeLcdc v))
    (stat : motive 0xFF41
      { s with lcd := { s.lcd with stat := (v &&& 0xF8) ||| (s.lcd.stat &&& 0x07) } })
    (lyc : motive 0xFF45 (State.compareLine { s with lcd := { s.lcd with lyc := v } }))
    (dma : motive 0xFF46 (s.startDma v))
    (scy : motive 0xFF42 { s with lcd := { s.lcd with scy := v } })
    (scx : motive 0xFF43 { s with lcd := { s.lcd with scx := v } })
    (bgp : motive 0xFF47 { s with lcd := { s.lcd with bgp := v } })
    (obp0 : motive 0xFF48 { s with lcd := { s.lcd with obp0 := v } })
    (obp1 : motive 0xFF49 { s with lcd := { s.lcd with obp1 := v } })
    (wy : motive 0xFF4A { s with lcd := { s.lcd with wy := v } })
    (wx : motive 0xFF4B { s with lcd := { s.lcd with wx := v } })
    (ignored : ∀ w, motive w s) (w : Nat) : motive w (lcdWrite s w v) := by
  unfold lcdWrite
  refine iteInduction (motive := motive w) (vram w) fun _ => ?_
  refine iteInduction (motive := motive w) (oam w) fun _ => ?_
  refine iteInduction (motive := motive w) (fun h => h ▸ lcdc) fun _ => ?_
  refine iteInduction (motive := motive w) (fun h => h ▸ stat) fun _ => ?_
  refine iteInduction (motive := motive w) (fun h => h ▸ scy) fun _ => ?_
  refine iteInduction (motive := motive w) (fun h => h ▸ scx) fun _ => ?_
  refine iteInduction (motive := motive w) (fun _ => ignored w) fun _ => ?_
  refine iteInduction (motive := motive w) (fun h => h ▸ lyc) fun _ => ?_
  refine iteInduction (motive := motive w) (fun h => h ▸ dma) fun _ => ?_
  refine iteInduction (motive := motive w) (fun h => h ▸ bgp) fun _ => ?_
  refine iteInduction (motive := motive w) (fun h => h ▸ obp0) fun _ => ?_
  refine iteInduction (motive := motive w) (fun h => h ▸ obp1) fun _ => ?_
  refine iteInduction (motive := motive w) (fun h => h ▸ wy) fun _ => ?_
  exact iteInduction (motive := motive w) (fun h => h ▸ wx) fun _ => ignored w

theorem lcdWrite_eq (s : State) (w : Nat) (v : Byte) : ∃ lcd iflag,
    lcdWrite s w v = { s with lcd := lcd, cpu := { s.cpu with iflag := iflag } } ∧
    (iflag = s.cpu.iflag ∨ w = 0xFF40 ∨ w = 0xFF45) := by
  refine lcdWrite_induction (motive := fun w t => ∃ lcd iflag,
    t = { s with lcd := lcd, cpu := { s.cpu with iflag := iflag } } ∧
      (iflag = s.cpu.iflag ∨ w = 0xFF40 ∨ w = 0xFF45)) s v ?vram ?oam ?lcdc ?stat ?lyc ?dma ?scy ?scx
      ?bgp ?obp0 ?obp1 ?wy ?wx ?ignored w
  case lcdc =>
    obtain ⟨_, _, _, _, _, _, h⟩ := writeLcdc_eq s v
    exact ⟨_, _, h, by simp⟩
  case lyc => exact ⟨_, _, compareLine_eq _, by simp⟩
  case vram | oam => exact fun _ _ => ⟨_, _, rfl, .inl rfl⟩
  case ignored => exact fun _ => ⟨_, _, rfl, .inl rfl⟩
  all_goals exact ⟨_, _, rfl, .inl rfl⟩

theorem joypadWrite_eq (s : State) (w : Nat) (v : Byte) : joypadWrite s w v =
    if w = 0xFF00 then afterSelect s s.joypad.line0 s.joypad.line1 ((~~~v).extractLsb' 4 2) else s := by
  rw [← recompute_eq_afterSelect]
  rfl

/-! ### A read depends on the answers of the components -/

theorem busRead_of_reads {s t : State} {a : Word}
    (cpu : cpuRead t a.toNat = cpuRead s a.toNat) (wram : wramRead t a.toNat = wramRead s a.toNat)
    (echo : echoRead t a.toNat = echoRead s a.toNat) (rom : romRead t a.toNat = romRead s a.toNat)
    (timer : timerRead t a.toNat = timerRead s a.toNat) (lcd : lcdRead t a.toNat = lcdRead s a.toNat)
    (joypad : joypadRead t a.toNat = joypadRead s a.toNat) : t.busRead a = s.busRead a := by
  unfold State.busRead
  dsimp only
  rw [cpu, wram, echo, rom, timer, lcd, joypad]

theorem cpuRead_iflag {s : State} {iflag : BitVec 5} {a : Nat}
    (h : iflag = s.cpu.iflag ∨ a ≠ 0xFF0F) :
    cpuRead { s with cpu := { s.cpu with iflag := iflag } } a = cpuRead s a := by
  rcases h with rfl | h
  · rfl
  · simp only [cpuRead, if_neg h]

theorem cpuRead_cpuWrite_of_ne (s : State) {w a : Nat} (v : Byte) (h : a ≠ w) :
    cpuRead (cpuWrite s w v) a = cpuRead s a := by
  unfold cpuWrite
  split_ifs with hif hhram hie
  · subst hif
    exact cpuRead_iflag (.inr h)
  · unfold cpuRead
    split_ifs
    · rfl
    · exact congrArg some (Memory.read_write_of_ne _ _ (by omega))
    · rfl
    · rfl
  · subst hie
    simp only [cpuRead, if_neg h]
  · rfl

/-- The LCD controller's registers and memories are read one at a time. -/
theorem lcdRead_lcdWrite_of_ne (s : State) {w a : Nat} (v : Byte) (h : a ≠ w)
    (hlcdc : w = 0xFF40 → a ≠ 0xFF41 ∧ a ≠ 0xFF44) (hlyc : w = 0xFF45 → a ≠ 0xFF41) :
    lcdRead (lcdWrite s w v) a = lcdRead s a := by
  revert h hlcdc hlyc
  refine lcdWrite_induction (motive := fun w t => a ≠ w → (w = 0xFF40 → a ≠ 0xFF41 ∧ a ≠ 0xFF44) →
    (w = 0xFF45 → a ≠ 0xFF41) → lcdRead t a = lcdRead s a) s v ?vram ?oam ?lcdc ?stat ?lyc ?dma ?scy ?scx
      ?bgp ?obp0 ?obp1 ?wy ?wx ?ignored w
  case vram =>
    intro w hw h _ _
    unfold lcdRead
    refine ite_congr rfl (fun ha => ?_) fun _ => rfl
    exact congrArg some (Memory.read_write_of_ne _ _ (by omega))
  case oam =>
    intro w hw h _ _
    unfold lcdRead
    refine ite_congr rfl (fun _ => rfl) fun _ => ite_congr rfl (fun ha => ?_) fun _ => rfl
    exact congrArg some (Memory.read_write_of_ne _ _ (by omega))
  case lcdc =>
    intro h hstat _
    obtain ⟨_, _, _, _, _, _, heq⟩ := writeLcdc_eq s v
    simp only [heq, lcdRead, if_neg h, if_neg (hstat rfl).1, if_neg (hstat rfl).2]
  case lyc =>
    intro h _ hstat
    simp only [compareLine_eq, lcdRead, if_neg h, if_neg (hstat rfl)]
  case ignored => exact fun _ _ _ _ => rfl
  all_goals
    intro h _ _
    simp only [lcdRead, State.startDma, if_neg h]

/-! ### A write that does not touch the byte read -/

theorem busRead_cpuWrite_of_ne (s : State) {w a : Word} (v : Byte) (h : a.toNat ≠ w.toNat) :
    (cpuWrite s w.toNat v).busRead a = s.busRead a := by
  refine busRead_of_reads (cpuRead_cpuWrite_of_ne s v h) ?_ ?_ ?_ ?_ ?_ ?_ <;>
    (unfold cpuWrite; split_ifs <;> rfl)

theorem busRead_wram_write (s : State) {a : Word} {k : Nat} (v : Byte)
    (hw : a.toNat < 0xE000 → a.toNat ≠ 0xC000 + k) (he : a.toNat < 0xFE00 → a.toNat ≠ 0xE000 + k) :
    State.busRead { s with wram := s.wram.write k v } a = s.busRead a := by
  refine busRead_of_reads rfl ?_ ?_ rfl rfl rfl rfl
  · unfold wramRead
    split_ifs
    · exact congrArg some (Memory.read_write_of_ne _ _ (by omega))
    · rfl
  · unfold echoRead
    split_ifs
    · exact congrArg some (Memory.read_write_of_ne _ _ (by omega))
    · rfl

theorem busRead_bootEn (s : State) {a : Word} (b : Bool) (h : 0x100 ≤ a.toNat) :
    State.busRead { s with bootEn := b } a = s.busRead a := by
  refine busRead_of_reads rfl rfl rfl ?_ rfl rfl rfl
  have hlow (e : Bool) : ¬(a.toNat < 0x0100 ∧ e = true) := by omega
  simp only [romRead, if_neg (hlow _)]

theorem busRead_timerWrite_of_ne (s : State) {w : Nat} {a : Word} (v : Byte) (h : a.toNat ≠ w)
    (hedge : w = 0xFF04 ∨ w = 0xFF07 → a.toNat ≠ 0xFF05 ∧ a.toNat ≠ 0xFF0F) :
    (timerWrite s w v).busRead a = s.busRead a := by
  obtain ⟨divc, tima, tma, tac, iflag, heq, hdivc, htima, htma, htac, hif⟩ := timerWrite_eq s w v
  rw [heq]
  refine busRead_of_reads (cpuRead_iflag (hif.imp_right fun hw => (hedge hw).2)) rfl rfl rfl ?_ rfl rfl
  unfold timerRead
  split_ifs
  · rw [hdivc.resolve_right (by omega)]
  · rw [htima.resolve_right (by omega)]
  · rw [htma.resolve_right (by omega)]
  · rw [htac.resolve_right (by omega)]
  · rfl

theorem busRead_lcdWrite_of_ne (s : State) {w : Nat} {a : Word} (v : Byte) (h : a.toNat ≠ w)
    (hlcdc : w = 0xFF40 → a.toNat ≠ 0xFF41 ∧ a.toNat ≠ 0xFF44 ∧ a.toNat ≠ 0xFF0F)
    (hlyc : w = 0xFF45 → a.toNat ≠ 0xFF41 ∧ a.toNat ≠ 0xFF0F) :
    (lcdWrite s w v).busRead a = s.busRead a := by
  have hlcd := lcdRead_lcdWrite_of_ne s v h (fun hw => ⟨(hlcdc hw).1, (hlcdc hw).2.1⟩)
    fun hw => (hlyc hw).1
  obtain ⟨lcd, iflag, heq, hif⟩ := lcdWrite_eq s w v
  rw [heq] at hlcd ⊢
  have hcpu := hif.imp_right fun hw => hw.elim (fun hw => (hlcdc hw).2.2) fun hw => (hlyc hw).2
  exact busRead_of_reads (cpuRead_iflag hcpu) rfl rfl rfl rfl hlcd rfl

theorem busRead_joypadWrite_of_ne (s : State) {a : Word} (v : Byte) (h : a.toNat ≠ 0xFF00)
    (hif : a.toNat ≠ 0xFF0F) : (joypadWrite s 0xFF00 v).busRead a = s.busRead a := by
  rw [joypadWrite_eq, if_pos rfl]
  refine busRead_of_reads (cpuRead_iflag (.inr hif)) rfl rfl rfl rfl rfl ?_
  rw [joypadRead_outside h, joypadRead_outside h]

/-- `touches`, read as addresses. -/
theorem of_touches_eq_false {w a : Word} (h : touches w a = false) :
    a.toNat ≠ w.toNat ∧
    (0xC000 ≤ w.toNat → w.toNat < 0xDE00 → a.toNat ≠ w.toNat + 0x2000) ∧
    (0xE000 ≤ w.toNat → w.toNat < 0xFE00 → a.toNat + 0x2000 ≠ w.toNat) ∧
    (w.toNat = 0xFF00 → a.toNat ≠ 0xFF0F) ∧
    (w.toNat = 0xFF04 ∨ w.toNat = 0xFF07 → a.toNat ≠ 0xFF05 ∧ a.toNat ≠ 0xFF0F) ∧
    (w.toNat = 0xFF40 → a.toNat ≠ 0xFF41 ∧ a.toNat ≠ 0xFF44 ∧ a.toNat ≠ 0xFF0F) ∧
    (w.toNat = 0xFF45 → a.toNat ≠ 0xFF41 ∧ a.toNat ≠ 0xFF0F) ∧
    (w.toNat = 0xFF50 → 0x100 ≤ a.toNat) := by
  simp only [touches, Bool.or_eq_false_iff, Bool.and_eq_false_imp, decide_eq_false_iff_not,
    decide_eq_true_eq, beq_eq_false_iff_ne, Bool.or_eq_true, beq_iff_eq] at h
  obtain ⟨⟨⟨⟨⟨⟨⟨same, echo⟩, wram⟩, p1⟩, timer⟩, lcdc⟩, lyc⟩, boot⟩ := h
  refine ⟨?_, ?_, ?_, ?_, ?_, ?_, ?_, ?_⟩ <;> bv_omega

theorem busRead_busWrite_of_not_touches (s : State) {w a : Word} (v : Byte) (h : touches w a = false) :
    (s.busWrite w v).busRead a = s.busRead a := by
  obtain ⟨same, echo, wram, p1, timer, lcdc, lyc, boot⟩ := of_touches_eq_false h
  by_cases hnone : Unwritable w.toNat
  · rw [busWrite_unwritable v hnone]
  by_cases hcpu : w.toNat = 0xFF0F ∨ 0xFF80 ≤ w.toNat
  · rw [busWrite_cpu v hcpu, busRead_cpuWrite_of_ne s v same]
  by_cases hwram : 0xC000 ≤ w.toNat ∧ w.toNat < 0xE000
  · rw [busWrite_wram v hwram]
    exact busRead_wram_write s v (by omega) (by omega)
  by_cases hecho : 0xE000 ≤ w.toNat ∧ w.toNat < 0xFE00
  · rw [busWrite_echo v hecho]
    exact busRead_wram_write s v (by omega) (by omega)
  by_cases hboot : w.toNat = 0xFF50
  · rw [busWrite_bootDisable v hboot]
    exact busRead_bootEn s false (boot hboot)
  by_cases htimer : 0xFF04 ≤ w.toNat ∧ w.toNat ≤ 0xFF07
  · rw [busWrite_timer v htimer]
    exact busRead_timerWrite_of_ne s v same timer
  by_cases hp1 : w.toNat = 0xFF00
  · rw [busWrite_joypad v hp1, hp1]
    exact busRead_joypadWrite_of_ne s v (hp1 ▸ same) (p1 hp1)
  · rw [busWrite_lcd v (by unfold Unwritable at hnone; omega)]
    exact busRead_lcdWrite_of_ne s v same lcdc lyc

theorem busRead_busWrite_self (s : State) {addr : Word} (v : Byte)
    (h : (0x8000 ≤ addr.toNat ∧ addr.toNat < 0xA000) ∨ (0xC000 ≤ addr.toNat ∧ addr.toNat < 0xFEA0) ∨
      (0xFF80 ≤ addr.toNat ∧ addr.toNat < 0xFFFF)) : (s.busWrite addr v).busRead addr = v := by
  by_cases hvram : addr.toNat < 0xA000
  · rw [busWrite_vram v (by omega), busRead_vram (by omega), Memory.read_write_self]
  by_cases hwram : addr.toNat < 0xE000
  · rw [busWrite_wram v (by omega), busRead_wram (by omega), Memory.read_write_self]
  by_cases hecho : addr.toNat < 0xFE00
  · rw [busWrite_echo v (by omega), busRead_echo (by omega), Memory.read_write_self]
  by_cases hoam : addr.toNat < 0xFEA0
  · rw [busWrite_oam v (by omega), busRead_oam (by omega), Memory.read_write_self]
  · rw [busWrite_hram v (by omega), busRead_hram (by omega), Memory.read_write_self]

/-- Settles O5: the memories by their own reads and writes, every other address by the owner of the write. -/
theorem busReadsAfterABusWrite : Obligations.BusReadsAfterABusWrite :=
  ⟨fun s _ v h => busRead_busWrite_self s v h, fun s _ _ v h => busRead_busWrite_of_not_touches s v h⟩

end Sys2Proof.Machine
end

section
/-! PROOFS. What an instruction leaves alone (20_memory.md section 3, 30_encoding.md section 7, 45_system.md;
O34 to O37). The memory frame, the devices and the images follow from what an instruction can do at all
(`exec_next_cases`). The registers, the flags, SP and IME need each form of Laws/Exec.lean by itself: `RegFrame`
says what a state keeps of another, a form keeps what its own writes spare, and each row is one form. -/

namespace Sys2Proof.Machine

/-! ### What updates of CPU registers leave alone -/

/-- `t` is `s` with other CPU registers or another fault state; IE, IF, high RAM and all outside the CPU are
unchanged. -/
def RegisterChange (s t : State) : Prop :=
  ∃ cpu fault, t = { s with cpu := cpu, fault := fault } ∧
    cpu.ie = s.cpu.ie ∧ cpu.iflag = s.cpu.iflag ∧ cpu.hram = s.cpu.hram

theorem RegisterChange.refl (s : State) : RegisterChange s s := ⟨_, _, rfl, rfl, rfl, rfl⟩

theorem RegisterChange.trans {s t u : State} (h : RegisterChange s t) (k : RegisterChange t u) :
    RegisterChange s u := by
  obtain ⟨_, _, rfl, hie, hif, hhram⟩ := h
  obtain ⟨_, _, rfl, kie, kif, khram⟩ := k
  exact ⟨_, _, rfl, kie.trans hie, kif.trans hif, khram.trans hhram⟩

theorem retire_registerChange (s : State) (npc : Word) (n : Nat) : RegisterChange s (s.retire npc n) :=
  ⟨_, _, rfl, rfl, rfl, rfl⟩

/-- The updates of CPU registers one by one, with the bus writes between them. -/
theorem Moves.induction {s t : State} {ws : List Word} {motive : List Word → State → Prop}
    (h : Moves s ws t) (refl : motive [] s)
    (registers : ∀ {ws t u}, RegisterChange t u → motive ws t → motive ws u)
    (busWrite : ∀ {ws t} a v, motive ws t → motive (ws ++ [a]) (t.busWrite a v)) : motive ws t := by
  induction h with
  | refl => exact refl
  | busWrite _ a v ih => exact busWrite a v ih
  | setReg _ _ _ ih | setPair _ _ _ ih | setStackPair _ _ _ ih =>
    exact registers ⟨_, _, rfl, by simp, by simp, by simp⟩ ih
  | setF _ _ ih | setHL _ _ ih | setSP _ _ ih | setIME _ _ ih =>
    exact registers ⟨_, _, rfl, rfl, rfl, rfl⟩ ih

/-- An instruction that stores nothing updates CPU registers alone. -/
theorem Moves.registerChange {s t : State} (h : Moves s [] t) : RegisterChange s t := by
  have general := h.induction (motive := fun ws t => ws = [] → RegisterChange s t)
    (fun _ => .refl s) (fun hr ih hws => (ih hws).trans hr)
    fun a _ _ hws => absurd hws (List.append_ne_nil_of_right_ne_nil _ (List.cons_ne_nil a []))
  exact general rfl

theorem Moves.roms {s t : State} {ws : List Word} (h : Moves s ws t) :
    t.bootRom = s.bootRom ∧ t.cartridge = s.cartridge := by
  refine h.induction (motive := fun _ t => t.bootRom = s.bootRom ∧ t.cartridge = s.cartridge) ⟨rfl, rfl⟩
    ?registers ?busWrite
  case registers =>
    rintro _ _ _ ⟨_, _, rfl, _⟩ ih
    exact ih
  case busWrite =>
    intro _ t a v ih
    obtain ⟨hboot, hcart⟩ := (busWrite_change t a v).roms
    exact ⟨hboot.trans ih.1, hcart.trans ih.2⟩

theorem Moves.fault {s t : State} {ws : List Word} (h : Moves s ws t) : t.fault = s.fault := by
  induction h with
  | refl => rfl
  | busWrite _ a v ih => exact (busWrite_change _ a v).fault.trans ih
  | _ => assumption

/-! ### The memory frame -/

theorem RegisterChange.busRead {s t : State} (h : RegisterChange s t) (a : Word) :
    t.busRead a = s.busRead a := by
  obtain ⟨_, _, rfl, hie, hif, hhram⟩ := h
  exact busRead_congr (s := s) (t := { s with cpu := _, fault := _ }) hif hie hhram rfl rfl rfl rfl rfl rfl rfl a

theorem Moves.busRead_of_not_touches {s t : State} {ws : List Word} (h : Moves s ws t) {a : Word}
    (hws : ∀ w ∈ ws, touches w a = false) : t.busRead a = s.busRead a := by
  revert hws
  refine h.induction (motive := fun ws t => (∀ w ∈ ws, touches w a = false) → t.busRead a = s.busRead a)
    (fun _ => rfl) (fun hr ih hws => (hr.busRead a).trans (ih hws)) fun w v ih hws => ?_
  rw [busRead_busWrite_of_not_touches _ v (hws w (by simp)), ih fun w hw => hws w (List.mem_append_left _ hw)]

/-! ### The register frame of each update -/

/-- `t` keeps what `s` holds in the registers outside `regs` and the flags outside `mask`, in SP unless `sp`
and in IME unless `ime`. -/
structure RegFrame (regs : List Reg8) (mask : Byte) (sp ime : Bool) (s t : State) : Prop where
  reg : ∀ r ∉ regs, t.cpu.reg r = s.cpu.reg r
  f : mask = 0 → t.cpu.f = s.cpu.f
  flag : ∀ k, 4 ≤ k → k < 8 → mask.getLsbD k = false → t.cpu.f.getLsbD k = s.cpu.f.getLsbD k
  sp : sp = false → t.cpu.sp = s.cpu.sp
  ime : ime = false → t.cpu.ime = s.cpu.ime

/-- The flags a policy can change are in the mask. -/
def FlagPolicy.within (p : FlagPolicy) (mask : Byte) : Bool :=
  mask != 0 && (p.z == .keep || mask.getLsbD 7) && (p.n == .keep || mask.getLsbD 6) &&
    (p.h == .keep || mask.getLsbD 5) && (p.c == .keep || mask.getLsbD 4)

/-- The registers a written pair is made of. -/
def pairRegs : Pair16 → List Reg8
  | .bc => [.b, .c]
  | .de => [.d, .e]
  | .hl => [.h, .l]
  | .sp => []

/-- The registers of {A, B, C, D, E, H, L} a popped pair is made of. -/
def stackPairRegs : StackPair → List Reg8
  | .bc => [.b, .c]
  | .de => [.d, .e]
  | .hl => [.h, .l]
  | .af => [.a]

/-- The registers a read-change-write operand is made of. -/
def rmwRegs : Rmw8 → List Reg8
  | .reg r => [r]
  | .atHL => []

section Frames

variable {regs : List Reg8} {mask : Byte} {sp ime : Bool}

/-- An update that keeps F whole. -/
theorem RegFrame.of_f {s t : State} (reg : ∀ r ∉ regs, t.cpu.reg r = s.cpu.reg r) (f : t.cpu.f = s.cpu.f)
    (hsp : sp = false → t.cpu.sp = s.cpu.sp) (hime : ime = false → t.cpu.ime = s.cpu.ime) :
    RegFrame regs mask sp ime s t :=
  ⟨reg, fun _ => f, fun _ _ _ _ => by rw [f], hsp, hime⟩

theorem RegFrame.refl (s : State) : RegFrame regs mask sp ime s s :=
  .of_f (fun _ _ => rfl) rfl (fun _ => rfl) fun _ => rfl

theorem RegFrame.trans {s t u : State} (h : RegFrame regs mask sp ime s t)
    (k : RegFrame regs mask sp ime t u) : RegFrame regs mask sp ime s u where
  reg r hr := (k.reg r hr).trans (h.reg r hr)
  f hm := (k.f hm).trans (h.f hm)
  flag n hn hn' hm := (k.flag n hn hn' hm).trans (h.flag n hn hn' hm)
  sp hsp := (k.sp hsp).trans (h.sp hsp)
  ime hime := (k.ime hime).trans (h.ime hime)

theorem Cpu.reg_setReg (u : Cpu) (r q : Reg8) (v : Byte) :
    (u.setReg r v).reg q = if q = r then v else u.reg q := by
  cases r <;> cases q <;> rfl

theorem Cpu.reg_setPair_of_notMem (u : Cpu) {p : Pair16} {r : Reg8} (v : Word) (h : r ∉ pairRegs p) :
    (u.setPair p v).reg r = u.reg r := by
  cases p <;> cases r <;> simp_all [pairRegs, Cpu.setPair, Cpu.setHL, Cpu.reg]

theorem Cpu.reg_setStackPair_of_notMem (u : Cpu) {p : StackPair} {r : Reg8} (v : Word)
    (h : r ∉ stackPairRegs p) : (u.setStackPair p v).reg r = u.reg r := by
  cases p <;> cases r <;> simp_all [stackPairRegs, Cpu.setStackPair, Cpu.setHL, Cpu.setF, Cpu.reg]

theorem Cpu.sp_setPair_of_ne (u : Cpu) {p : Pair16} (v : Word) (h : p ≠ .sp) :
    (u.setPair p v).sp = u.sp := by
  cases p with
  | sp => exact absurd rfl h
  | _ => rfl

theorem setReg_frame (s : State) {r : Reg8} (v : Byte) (hr : r ∈ regs) :
    RegFrame regs mask sp ime s (s.setReg r v) := by
  refine .of_f (fun q hq => ?_) (Cpu.setReg_f _ _ _) (fun _ => Cpu.setReg_sp _ _ _)
    fun _ => Cpu.setReg_ime _ _ _
  rw [State.setReg_cpu, Cpu.reg_setReg, if_neg (ne_of_mem_of_not_mem hr hq).symm]

theorem setHL_frame (s : State) (v : Word) (hh : Reg8.h ∈ regs) (hl : Reg8.l ∈ regs) :
    RegFrame regs mask sp ime s (s.setHL v) :=
  .of_f (fun _ hq => Cpu.reg_setPair_of_notMem s.cpu (p := .hl) v fun h => hq (by
    rcases List.mem_pair.mp h with rfl | rfl <;> assumption)) rfl (fun _ => rfl) fun _ => rfl

theorem setPair_frame (s : State) {p : Pair16} (v : Word) (hr : ∀ r ∈ pairRegs p, r ∈ regs)
    (hsp : p = .sp → sp = true) : RegFrame regs mask sp ime s { s with cpu := s.cpu.setPair p v } :=
  .of_f (fun q hq => Cpu.reg_setPair_of_notMem _ _ fun h => hq (hr q h)) (Cpu.setPair_f _ _ _)
    (fun h => Cpu.sp_setPair_of_ne _ _ fun hp => Bool.false_ne_true (h.symm.trans (hsp hp)))
    fun _ => Cpu.setPair_ime _ _ _

theorem setSP_frame (s : State) (v : Word) (hsp : sp = true) :
    RegFrame regs mask sp ime s (s.setSP v) :=
  .of_f (fun r _ => by cases r <;> rfl) rfl (fun h => absurd (h.symm.trans hsp) Bool.false_ne_true)
    fun _ => rfl

theorem setIME_frame (s : State) (v : Bool) (hime : ime = true) :
    RegFrame regs mask sp ime s (s.setIME v) :=
  .of_f (fun r _ => by cases r <;> rfl) rfl (fun _ => rfl)
    fun h => absurd (h.symm.trans hime) Bool.false_ne_true

theorem retire_frame (s : State) (npc : Word) (n : Nat) :
    RegFrame regs mask sp ime s (s.retire npc n) :=
  .of_f (fun r _ => by cases r <;> rfl) rfl (fun _ => rfl) fun _ => rfl

theorem busWrite_frame (s : State) (a : Word) (v : Byte) :
    RegFrame regs mask sp ime s (s.busWrite a v) :=
  have h := busWrite_change s a v
  .of_f (fun r _ => h.reg r) h.f (fun _ => h.sp) fun _ => h.ime

theorem busWrite16_frame (s : State) (a v : Word) :
    RegFrame regs mask sp ime s (s.busWrite16 a v) :=
  (busWrite_frame _ _ _).trans (busWrite_frame _ _ _)

theorem push16_frame (s : State) (v : Word) (hsp : sp = true) :
    RegFrame regs mask sp ime s (s.push16 v) :=
  (setSP_frame s _ hsp).trans (busWrite16_frame _ _ _)

/-- The bit a policy gives, by the position of the flag in F. -/
theorem packFlags_getLsbD (z n h c : Bool) {k : Nat} (hk : 4 ≤ k) (hk' : k < 8) :
    (packFlags z n h c &&& 0xF0).getLsbD k =
      if k = 7 then z else if k = 6 then n else if k = 5 then h else c := by
  interval_cases k <;> revert z n h c <;> decide

theorem setFlags_frame (s : State) {w : Nat} {p : FlagPolicy} (r : AluResult w)
    (hp : p.within mask = true) : RegFrame regs mask sp ime s (s.setFlags p r) := by
  simp only [FlagPolicy.within, Bool.and_eq_true, bne_iff_ne, Bool.or_eq_true, beq_iff_eq] at hp
  obtain ⟨⟨⟨⟨hm, hz⟩, hn⟩, hh⟩, hc⟩ := hp
  refine ⟨fun r _ => by cases r <;> rfl, fun h => absurd h hm, fun k hk hk' hbit => ?_,
    fun _ => rfl, fun _ => rfl⟩
  have keeps {q : Policy} {j : Nat} (hq : q = .keep ∨ mask.getLsbD j = true) (hj : k = j) (b c : Bool) :
      q.choose b c = c := by
    subst hj
    rw [hq.resolve_right (by rw [hbit]; exact Bool.false_ne_true)]
    rfl
  rw [State.setFlags, State.setF_cpu, Cpu.setF_f, newF, packFlags_getLsbD _ _ _ _ hk hk']
  split_ifs with h7 h6 h5
  · rw [keeps hz h7, h7]; rfl
  · rw [keeps hn h6, h6]; rfl
  · rw [keeps hh h5, h5]; rfl
  · have h4 : k = 4 := by omega
    rw [keeps hc h4, h4]; rfl

theorem setStackPair_frame (s : State) {p : StackPair} (v : Word) (hr : ∀ r ∈ stackPairRegs p, r ∈ regs)
    (hf : p = .af → mask = 0xF0) : RegFrame regs mask sp ime s { s with cpu := s.cpu.setStackPair p v } := by
  have reg : ∀ q ∉ regs, (s.cpu.setStackPair p v).reg q = s.cpu.reg q :=
    fun q hq => Cpu.reg_setStackPair_of_notMem _ _ fun h => hq (hr q h)
  cases p with
  | af =>
    obtain rfl := hf rfl
    refine ⟨reg, fun h => absurd h (by decide), fun k hk hk' hbit => ?_, fun _ => rfl, fun _ => rfl⟩
    interval_cases k <;> exact absurd hbit (by decide)
  | _ => exact .of_f reg rfl (fun _ => rfl) fun _ => rfl

/-! ### The register frame of each form -/

/-- The answer is a next state that keeps what the frame says. -/
def Framed (regs : List Reg8) (mask : Byte) (sp ime : Bool) (s : State) (r : Result State) : Prop :=
  ∃ t, r = .next t ∧ RegFrame regs mask sp ime s t

theorem RegFrame.retires {s t : State} (h : RegFrame regs mask sp ime s t) (npc : Word) (n : Nat) :
    Framed regs mask sp ime s (.next (t.retire npc n)) :=
  ⟨_, rfl, h.trans (retire_frame t npc n)⟩

theorem Rmw8.write_frame (o : Rmw8) (v : Byte) (s : State) :
    RegFrame (rmwRegs o) mask sp ime s (o.write v s) := by
  cases o with
  | reg r => exact setReg_frame s v (List.mem_singleton_self r)
  | atHL => exact busWrite_frame s _ v

variable {s : State} {o : Rmw8} {n len extra : Nat} {cc : Cond}

theorem ldReg_framed {dst : Reg8} {src : Src8} : Framed [dst] mask sp ime s (ldReg dst src len n s) :=
  (setReg_frame s _ (by simp)).retires _ _

theorem ldStore_framed {addr : Word} {v : Byte} : Framed regs mask sp ime s (ldStore addr v len n s) :=
  (busWrite_frame s addr v).retires _ _

theorem ldAFrom_framed {addr : Word} : Framed [.a] mask sp ime s (ldAFrom addr len n s) :=
  (setReg_frame s _ (by simp)).retires _ _

theorem ldAStepHL_framed {delta : Word} : Framed [.a, .h, .l] mask sp ime s (ldAStepHL delta s) :=
  ((setReg_frame s _ (by simp)).trans (setHL_frame _ _ (by simp) (by simp))).retires _ _

theorem ldStepHLA_framed {delta : Word} : Framed [.h, .l] mask sp ime s (ldStepHLA delta s) :=
  ((busWrite_frame s _ _).trans (setHL_frame _ _ (by simp) (by simp))).retires _ _

theorem ldPair_framed {p : Pair16} {nn : Word} :
    Framed (pairRegs p) mask (p == .sp) ime s (ldPair p nn s) :=
  (setPair_frame s nn (fun _ h => h) beq_iff_eq.mpr).retires _ _

theorem stepPair_framed {p : Pair16} {delta : Word} :
    Framed (pairRegs p) mask (p == .sp) ime s (stepPair p delta s) :=
  (setPair_frame s _ (fun _ h => h) beq_iff_eq.mpr).retires _ _

theorem ldStoreSP_framed {nn : Word} : Framed regs mask sp ime s (ldStoreSP nn s) :=
  (busWrite16_frame s nn _).retires _ _

theorem ldSPHL_framed : Framed regs mask true ime s (ldSPHL s) :=
  (setSP_frame s _ rfl).retires _ _

theorem pushPair_framed {p : StackPair} : Framed regs mask true ime s (pushPair p s) :=
  (push16_frame s _ rfl).retires _ _

theorem popPair_framed {p : StackPair} :
    Framed (stackPairRegs p) (if p = .af then 0xF0 else 0) true ime s (popPair p s) :=
  ((setSP_frame s _ rfl).trans (setStackPair_frame _ _ (fun _ h => h) fun h => if_pos h)).retires _ _

theorem aluA_framed {op : AluOp} {src : Src8} :
    Framed (if aluWritesA op then [.a] else []) 0xF0 sp ime s (aluA op src len n s) := by
  unfold aluA
  dsimp only
  split
  · exact ((setReg_frame s _ (by simp)).trans (setFlags_frame _ _ rfl)).retires _ _
  · exact (setFlags_frame s _ rfl).retires _ _

theorem incByte_framed : Framed (rmwRegs o) 0xE0 sp ime s (incByte o n s) :=
  ((o.write_frame _ s).trans (setFlags_frame _ _ rfl)).retires _ _

theorem decByte_framed : Framed (rmwRegs o) 0xE0 sp ime s (decByte o n s) :=
  ((o.write_frame _ s).trans (setFlags_frame _ _ rfl)).retires _ _

theorem adjustA_framed : Framed [.a] 0xB0 sp ime s (adjustA s) :=
  ((setReg_frame s _ (by simp)).trans (setFlags_frame _ _ rfl)).retires _ _

theorem complementA_framed : Framed [.a] 0x60 sp ime s (complementA s) :=
  ((setReg_frame s _ (by simp)).trans (setFlags_frame _ _ rfl)).retires _ _

theorem setCarry_framed : Framed regs 0x70 sp ime s (setCarry s) :=
  (setFlags_frame s _ rfl).retires _ _

theorem complementCarry_framed : Framed regs 0x70 sp ime s (complementCarry s) :=
  (setFlags_frame s _ rfl).retires _ _

theorem addToHL_framed {p : Pair16} : Framed [.h, .l] 0x70 sp ime s (addToHL p s) :=
  ((setHL_frame s _ (by simp) (by simp)).trans (setFlags_frame _ _ rfl)).retires _ _

theorem addToSP_framed {e : Byte} : Framed regs 0xF0 true ime s (addToSP e s) :=
  ((setSP_frame s _ rfl).trans (setFlags_frame _ _ rfl)).retires _ _

theorem ldHLFromSP_framed {e : Byte} : Framed [.h, .l] 0xF0 sp ime s (ldHLFromSP e s) :=
  ((setHL_frame s _ (by simp) (by simp)).trans (setFlags_frame _ _ rfl)).retires _ _

theorem rotateA_framed {op : RotOp} : Framed [.a] 0xF0 sp ime s (rotateA op s) :=
  ((setReg_frame s _ (by simp)).trans (setFlags_frame _ _ rfl)).retires _ _

theorem rotateByte_framed {op : RotOp} : Framed (rmwRegs o) 0xF0 sp ime s (rotateByte op o n s) :=
  ((o.write_frame _ s).trans (setFlags_frame _ _ rfl)).retires _ _

theorem bitByte_framed {b : Nat} : Framed regs 0xE0 sp ime s (bitByte b o n s) :=
  (setFlags_frame s _ rfl).retires _ _

theorem resByte_framed {b : Nat} : Framed (rmwRegs o) mask sp ime s (resByte b o n s) :=
  (o.write_frame _ s).retires _ _

theorem setByte_framed {b : Nat} : Framed (rmwRegs o) mask sp ime s (setByte b o n s) :=
  (o.write_frame _ s).retires _ _

theorem jumpTo_framed {target : Word} : Framed regs mask sp ime s (jumpTo target n s) :=
  (RegFrame.refl s).retires _ _

theorem jumpIf_framed {target : Word} : Framed regs mask sp ime s (jumpIf cc target len n extra s) := by
  unfold jumpIf
  split <;> exact (RegFrame.refl s).retires _ _

theorem callTo_framed {target : Word} : Framed regs mask true ime s (callTo target len n s) :=
  (push16_frame s _ rfl).retires _ _

theorem callIf_framed {target : Word} : Framed regs mask true ime s (callIf cc target n extra s) := by
  unfold callIf
  split
  · exact (push16_frame s _ rfl).retires _ _
  · exact (RegFrame.refl s).retires _ _

theorem returnTo_framed : Framed regs mask true ime s (returnTo n s) :=
  (setSP_frame s _ rfl).retires _ _

theorem returnIf_framed : Framed regs mask true ime s (returnIf cc n extra s) := by
  unfold returnIf
  split
  · exact (setSP_frame s _ rfl).retires _ _
  · exact (RegFrame.refl s).retires _ _

theorem interruptReturn_framed : Framed regs mask true true s (.next (interruptReturn n s)) :=
  ((setSP_frame s _ rfl).trans (setIME_frame _ _ rfl)).retires _ _

theorem setMaster_framed {v : Bool} : Framed regs mask sp true s (setMaster v s) :=
  (setIME_frame s v rfl).retires _ _

theorem haltCpu_framed : Framed regs mask sp ime s (haltCpu s) :=
  ⟨_, rfl, .of_f (fun r _ => by cases r <;> rfl) rfl (fun _ => rfl) fun _ => rfl⟩

theorem raiseFatal_framed {r : FaultRecord} : Framed regs mask sp ime s (.next (s.raiseFatal r)) :=
  ⟨_, rfl, .of_f (fun _ _ => rfl) rfl (fun _ => rfl) fun _ => rfl⟩

end Frames

/-! ### Every row -/

/-- The instruction writes IME. -/
def writesIME (i : Instr) : Bool := i = .ei || i = .di || i = .reti

/-- Each row is one form, whose writes are among those the row's fields name. -/
theorem exec_framed (i : Instr) (s : State) :
    Framed (destRegs i) (flagMask i) (writesSP i) (writesIME i) s (exec i s) := by
  cases i
  case nop => exact (RegFrame.refl s).retires _ _
  case ld_bc_n16 | ld_de_n16 | ld_hl_n16 | ld_sp_n16 => exact ldPair_framed
  case ld_atBC_a | ld_atDE_a | ld_atHL_n8 | ld_atHL_b | ld_atHL_c | ld_atHL_d | ld_atHL_e | ld_atHL_h |
      ld_atHL_l | ld_atHL_a | ldh_atN8_a | ld_atC_a | ld_atN16_a => exact ldStore_framed
  case inc_bc | dec_bc | inc_de | dec_de | inc_hl | dec_hl | inc_sp | dec_sp => exact stepPair_framed
  case inc_b | inc_c | inc_d | inc_e | inc_h | inc_l | inc_atHL | inc_a => exact incByte_framed
  case dec_b | dec_c | dec_d | dec_e | dec_h | dec_l | dec_atHL | dec_a => exact decByte_framed
  case ld_b_n8 | ld_c_n8 | ld_d_n8 | ld_e_n8 | ld_h_n8 | ld_l_n8 | ld_a_n8 | ld_b_b | ld_b_c | ld_b_d |
      ld_b_e | ld_b_h | ld_b_l | ld_b_atHL | ld_b_a | ld_c_b | ld_c_c | ld_c_d | ld_c_e | ld_c_h |
      ld_c_l | ld_c_atHL | ld_c_a | ld_d_b | ld_d_c | ld_d_d | ld_d_e | ld_d_h | ld_d_l | ld_d_atHL |
      ld_d_a | ld_e_b | ld_e_c | ld_e_d | ld_e_e | ld_e_h | ld_e_l | ld_e_atHL | ld_e_a | ld_h_b |
      ld_h_c | ld_h_d | ld_h_e | ld_h_h | ld_h_l | ld_h_atHL | ld_h_a | ld_l_b | ld_l_c | ld_l_d |
      ld_l_e | ld_l_h | ld_l_l | ld_l_atHL | ld_l_a | ld_a_b | ld_a_c | ld_a_d | ld_a_e | ld_a_h |
      ld_a_l | ld_a_atHL | ld_a_a => exact ldReg_framed
  case rlca | rrca | rla | rra => exact rotateA_framed
  case ld_atN16_sp => exact ldStoreSP_framed
  case add_hl_bc | add_hl_de | add_hl_hl | add_hl_sp => exact addToHL_framed
  case ld_a_atBC | ld_a_atDE | ldh_a_atN8 | ld_a_atC | ld_a_atN16 => exact ldAFrom_framed
  case jr_e8 | jp_n16 | jp_hl => exact jumpTo_framed
  case jr_nz_e8 | jr_z_e8 | jr_nc_e8 | jr_c_e8 | jp_nz_n16 | jp_z_n16 | jp_nc_n16 | jp_c_n16 => exact
      jumpIf_framed
  case ld_atHLinc_a | ld_atHLdec_a => exact ldStepHLA_framed
  case daa => exact adjustA_framed
  case ld_a_atHLinc | ld_a_atHLdec => exact ldAStepHL_framed
  case cpl => exact complementA_framed
  case scf => exact setCarry_framed
  case ccf => exact complementCarry_framed
  case halt => exact haltCpu_framed
  case add_a_b | add_a_c | add_a_d | add_a_e | add_a_h | add_a_l | add_a_atHL | add_a_a | adc_a_b |
      adc_a_c | adc_a_d | adc_a_e | adc_a_h | adc_a_l | adc_a_atHL | adc_a_a | sub_a_b | sub_a_c |
      sub_a_d | sub_a_e | sub_a_h | sub_a_l | sub_a_atHL | sub_a_a | sbc_a_b | sbc_a_c | sbc_a_d |
      sbc_a_e | sbc_a_h | sbc_a_l | sbc_a_atHL | sbc_a_a | and_a_b | and_a_c | and_a_d | and_a_e |
      and_a_h | and_a_l | and_a_atHL | and_a_a | xor_a_b | xor_a_c | xor_a_d | xor_a_e | xor_a_h |
      xor_a_l | xor_a_atHL | xor_a_a | or_a_b | or_a_c | or_a_d | or_a_e | or_a_h | or_a_l | or_a_atHL |
      or_a_a | cp_a_b | cp_a_c | cp_a_d | cp_a_e | cp_a_h | cp_a_l | cp_a_atHL | cp_a_a | add_a_n8 |
      adc_a_n8 | sub_a_n8 | sbc_a_n8 | and_a_n8 | xor_a_n8 | or_a_n8 | cp_a_n8 => exact aluA_framed
  case ret_nz | ret_z | ret_nc | ret_c => exact returnIf_framed
  case pop_bc | pop_de | pop_hl | pop_af => exact popPair_framed
  case call_nz_n16 | call_z_n16 | call_nc_n16 | call_c_n16 => exact callIf_framed
  case push_bc | push_de | push_hl | push_af => exact pushPair_framed
  case rst_00 | call_n16 | rst_08 | rst_10 | rst_18 | rst_20 | rst_28 | rst_30 | rst_38 => exact
      callTo_framed
  case ret => exact returnTo_framed
  case add_sp_e8 => exact addToSP_framed
  case di | ei => exact setMaster_framed
  case ld_hl_sp_e8 => exact ldHLFromSP_framed
  case ld_sp_hl => exact ldSPHL_framed
  case rlc_b | rlc_c | rlc_d | rlc_e | rlc_h | rlc_l | rlc_atHL | rlc_a | rrc_b | rrc_c | rrc_d | rrc_e
      | rrc_h | rrc_l | rrc_atHL | rrc_a | rl_b | rl_c | rl_d | rl_e | rl_h | rl_l | rl_atHL | rl_a |
      rr_b | rr_c | rr_d | rr_e | rr_h | rr_l | rr_atHL | rr_a | sla_b | sla_c | sla_d | sla_e | sla_h |
      sla_l | sla_atHL | sla_a | sra_b | sra_c | sra_d | sra_e | sra_h | sra_l | sra_atHL | sra_a |
      swap_b | swap_c | swap_d | swap_e | swap_h | swap_l | swap_atHL | swap_a | srl_b | srl_c | srl_d |
      srl_e | srl_h | srl_l | srl_atHL | srl_a => exact rotateByte_framed
  case bit_0_b | bit_0_c | bit_0_d | bit_0_e | bit_0_h | bit_0_l | bit_0_atHL | bit_0_a | bit_1_b |
      bit_1_c | bit_1_d | bit_1_e | bit_1_h | bit_1_l | bit_1_atHL | bit_1_a | bit_2_b | bit_2_c |
      bit_2_d | bit_2_e | bit_2_h | bit_2_l | bit_2_atHL | bit_2_a | bit_3_b | bit_3_c | bit_3_d |
      bit_3_e | bit_3_h | bit_3_l | bit_3_atHL | bit_3_a | bit_4_b | bit_4_c | bit_4_d | bit_4_e |
      bit_4_h | bit_4_l | bit_4_atHL | bit_4_a | bit_5_b | bit_5_c | bit_5_d | bit_5_e | bit_5_h |
      bit_5_l | bit_5_atHL | bit_5_a | bit_6_b | bit_6_c | bit_6_d | bit_6_e | bit_6_h | bit_6_l |
      bit_6_atHL | bit_6_a | bit_7_b | bit_7_c | bit_7_d | bit_7_e | bit_7_h | bit_7_l | bit_7_atHL |
      bit_7_a => exact bitByte_framed
  case res_0_b | res_0_c | res_0_d | res_0_e | res_0_h | res_0_l | res_0_atHL | res_0_a | res_1_b |
      res_1_c | res_1_d | res_1_e | res_1_h | res_1_l | res_1_atHL | res_1_a | res_2_b | res_2_c |
      res_2_d | res_2_e | res_2_h | res_2_l | res_2_atHL | res_2_a | res_3_b | res_3_c | res_3_d |
      res_3_e | res_3_h | res_3_l | res_3_atHL | res_3_a | res_4_b | res_4_c | res_4_d | res_4_e |
      res_4_h | res_4_l | res_4_atHL | res_4_a | res_5_b | res_5_c | res_5_d | res_5_e | res_5_h |
      res_5_l | res_5_atHL | res_5_a | res_6_b | res_6_c | res_6_d | res_6_e | res_6_h | res_6_l |
      res_6_atHL | res_6_a | res_7_b | res_7_c | res_7_d | res_7_e | res_7_h | res_7_l | res_7_atHL |
      res_7_a => exact resByte_framed
  case set_0_b | set_0_c | set_0_d | set_0_e | set_0_h | set_0_l | set_0_atHL | set_0_a | set_1_b |
      set_1_c | set_1_d | set_1_e | set_1_h | set_1_l | set_1_atHL | set_1_a | set_2_b | set_2_c |
      set_2_d | set_2_e | set_2_h | set_2_l | set_2_atHL | set_2_a | set_3_b | set_3_c | set_3_d |
      set_3_e | set_3_h | set_3_l | set_3_atHL | set_3_a | set_4_b | set_4_c | set_4_d | set_4_e |
      set_4_h | set_4_l | set_4_atHL | set_4_a | set_5_b | set_5_c | set_5_d | set_5_e | set_5_h |
      set_5_l | set_5_atHL | set_5_a | set_6_b | set_6_c | set_6_d | set_6_e | set_6_h | set_6_l |
      set_6_atHL | set_6_a | set_7_b | set_7_c | set_7_d | set_7_e | set_7_h | set_7_l | set_7_atHL |
      set_7_a => exact setByte_framed
  case reti => exact interruptReturn_framed
  case stop | illegal_d3 | illegal_db | illegal_dd | illegal_e3 | illegal_e4 | illegal_eb | illegal_ec |
      illegal_ed | illegal_f4 | illegal_fc | illegal_fd => exact raiseFatal_framed

/-! ### The statements -/

/-- Settles O34: STOP and the unused bytes are single rows, which record the fault. -/
theorem stopAndIllegalBytesFault : Obligations.StopAndIllegalBytesFault := by
  refine ⟨fun _ _ => ⟨rfl, rfl⟩, fun row hrow => ⟨encode_illegalRow hrow, fun s => ?_⟩⟩
  simp only [illegalRows, List.mem_cons, List.not_mem_nil, or_false] at hrow
  rcases hrow with rfl | rfl | rfl | rfl | rfl | rfl | rfl | rfl | rfl | rfl | rfl <;> rfl

/-- Settles O35: every end of an instruction is a next state. -/
theorem everyInstructionCompletesInEveryState : Obligations.EveryInstructionCompletesInEveryState :=
  fun i s => (exec_ends i s).next

/-- Settles O36: the stores touch none of the bytes asked for, and nothing else an instruction does is read on
the bus. -/
theorem instructionsLeaveOtherBytesAlone : Obligations.InstructionsLeaveOtherBytesAlone := by
  intro i s t he a ha
  rcases exec_next_cases he with ⟨u, npc, n, hm, _, _, rfl⟩ | ⟨_, rfl⟩ | ⟨_, r, rfl⟩
  · rw [busRead_retire, hm.busRead_of_not_touches ha]
  · rfl
  · rfl

theorem exec_registerChange {i : Instr} {s t : State} (he : exec i s = .next t)
    (hws : storedBytes i s = []) : RegisterChange s t := by
  rcases exec_next_cases he with ⟨u, npc, n, hm, _, _, rfl⟩ | ⟨_, rfl⟩ | ⟨_, r, rfl⟩
  · rw [hws] at hm
    exact hm.registerChange.trans (retire_registerChange u npc n)
  · exact ⟨_, _, rfl, rfl, rfl, rfl⟩
  · exact ⟨_, _, rfl, rfl, rfl, rfl⟩

theorem exec_roms {i : Instr} {s t : State} (he : exec i s = .next t) :
    t.bootRom = s.bootRom ∧ t.cartridge = s.cartridge := by
  rcases exec_next_cases he with ⟨u, npc, n, hm, _, _, rfl⟩ | ⟨_, rfl⟩ | ⟨_, r, rfl⟩
  · exact hm.roms
  · exact ⟨rfl, rfl⟩
  · exact ⟨rfl, rfl⟩

theorem exec_cycle {i : Instr} {s t : State} (he : exec i s = .next t) : t.cycle = s.cycle := by
  rcases exec_next_cases he with ⟨u, npc, n, hm, _, _, rfl⟩ | ⟨_, rfl⟩ | ⟨_, r, rfl⟩
  · exact hm.cycle
  · rfl
  · rfl

theorem exec_fault {i : Instr} {s t : State} (he : exec i s = .next t) (hstop : ∀ n, i ≠ .stop n)
    (hill : i ∉ illegalRows.map Prod.snd) : t.fault = s.fault := by
  rcases exec_next_cases he with ⟨u, npc, n, hm, _, _, rfl⟩ | ⟨_, rfl⟩ | ⟨hi, r, rfl⟩
  · exact hm.fault
  · rfl
  · exact absurd hi (not_or.mpr ⟨fun ⟨n, h⟩ => hstop n h, hill⟩)

/-- Settles O37: the registers by the row's frame, the rest by what an instruction can do. -/
theorem instructionsLeaveOtherRegistersAlone : Obligations.InstructionsLeaveOtherRegistersAlone := by
  intro i s t he
  obtain ⟨t', ht', frame⟩ := exec_framed i s
  obtain rfl : t = t' := Host.Outcome.next.inj (he.symm.trans ht')
  refine ⟨frame.reg, frame.f, frame.flag, frame.sp, fun hei hdi hreti => frame.ime ?ime, ?devices,
    (exec_roms he).1, (exec_roms he).2, exec_cycle he, exec_fault he⟩
  case ime => simp [writesIME, hei, hdi, hreti]
  case devices =>
    intro hws
    obtain ⟨_, _, rfl, hie, hif, hhram⟩ := exec_registerChange he hws
    exact ⟨hie, hif, hhram, rfl, rfl, rfl, rfl, rfl⟩

end Sys2Proof.Machine
end

section
/-! PROOFS. The registers and the state the machine starts in (10_state.md section 1, 70_reset_and_hazards.md
section 1; O1, O2). -/

namespace Sys2Proof.Machine

/-! ### Registers and pairs -/

theorem Cpu.pair_setPair (u : Cpu) (p q : Pair16) (v : Word) :
    (u.setPair p v).pair q = if q = p then v else u.pair q := by
  by_cases h : q = p
  · rw [if_pos h, h]
    cases p
    case sp => rfl
    all_goals exact word16_hiByte_loByte v
  · rw [if_neg h]
    cases p <;> cases q <;> trivial

/-- F's four unused bits read 0, so a value written to AF loses its lowest four. -/
theorem word16_loByte_and_0xF0 (v : Word) : word16 (hiByte v) (loByte v &&& 0xF0) = v &&& 0xFFF0 := by
  calc word16 (hiByte v) (loByte v &&& 0xF0)
      = word16 (hiByte v) (loByte v) &&& word16 0xFF 0xF0 := by
        rw [word16, word16, word16, BitVec.and_append, show (0xFF : Byte) = BitVec.allOnes 8 from rfl,
          BitVec.and_allOnes]
    _ = v &&& 0xFFF0 := by rw [word16_hiByte_loByte]; rfl

theorem Cpu.stackPair_setStackPair (u : Cpu) (p q : StackPair) (v : Word) :
    (u.setStackPair p v).stackPair q =
      if q = p then (if p = .af then v &&& 0xFFF0 else v) else u.stackPair q := by
  by_cases h : q = p
  · rw [if_pos h, h]
    cases p
    case af => exact word16_loByte_and_0xF0 v
    all_goals exact word16_hiByte_loByte v
  · rw [if_neg h]
    cases p <;> cases q <;> trivial

/-- Settles O2: a written register by `Cpu.reg_setReg`, a written pair by its two halves. -/
theorem registersReadBackWhatIsWritten : Obligations.RegistersReadBackWhatIsWritten :=
  ⟨fun u r q v => ⟨u.reg_setReg r q v, u.setReg_f r v, u.setReg_pc r v, u.setReg_sp r v⟩,
    fun _ => ⟨rfl, rfl, rfl, rfl, rfl, rfl, rfl, rfl⟩,
    fun u p q v => ⟨u.pair_setPair p q v, by cases p <;> rfl, by cases p <;> rfl⟩,
    Cpu.stackPair_setStackPair, fun _ _ => rfl, fun _ => ⟨rfl, rfl, rfl, rfl⟩⟩

/-! ### Reset and the launches -/

theorem busRead_resetWith_lcd (bootRom cartridge : Memory) {a : Word}
    (h : 0xFF40 ≤ a.toNat ∧ a.toNat ≤ 0xFF4B) : (State.resetWith bootRom cartridge).busRead a = 0 := by
  have read (n : Nat) (h : 0xFF40 ≤ n ∧ n ≤ 0xFF4B) :
      lcdRead (State.resetWith bootRom cartridge) n = some 0 := by
    obtain ⟨hlo, hhi⟩ := h
    interval_cases n <;> rfl
  rw [busRead_lcd (.inr (.inr h)), read _ h]
  rfl

/-- LCDC = 0x91 turns the LCD on, in tick 0 (R705). -/
theorem postBoot_eq (bootRom cartridge : Memory) :
    postBoot bootRom cartridge =
      { State.resetWith bootRom cartridge with
        cpu := { Cpu.reset with a := 0x01, f := 0xB0, b := 0x00, c := 0x13, d := 0x00, e := 0xD8,
                                h := 0x01, l := 0x4D, sp := 0xFFFE, pc := 0x0100 }
        bootEn := false
        lcd := { Lcd.reset with bgp := 0xFC, lcdc := 0x91, phase := .starting, next := some 19 } } := by
  exact (writesOfTheLcdRegisters _ 0x91).1 (by decide) rfl

/-- Settles O1: the reset table is read off the definition, the LCD registers on the bus by
`busRead_resetWith_lcd`, and POST_BOOT is the reset state with the LCD turned on. -/
theorem resetGivesTheTabledValues : Obligations.ResetGivesTheTabledValues := by
  refine ⟨rfl, fun bootRom cartridge => ?_⟩
  intro s
  refine ⟨fun r => by cases r <;> rfl, rfl, rfl, rfl, rfl, rfl, rfl, fun _ => rfl, rfl, rfl, rfl, rfl,
    rfl, rfl, fun _ => busRead_resetWith_lcd bootRom cartridge, fun _ => rfl, fun _ => rfl, rfl, rfl, rfl, rfl,
    rfl, rfl, rfl, rfl, rfl, rfl, rfl, ?p1, ?div, fun _ => rfl, rfl, rfl, rfl, rfl, rfl,
    postBoot_eq bootRom cartridge⟩
  case p1 =>
    rw [busRead_joypad rfl, joypadRead, if_pos (by decide), show s.joypad = Joypad.reset from rfl]
    rfl
  case div =>
    rw [busRead_timer (by decide), timerRead, if_pos (by decide), show s.timer = Timer.reset from rfl]
    rfl

end Sys2Proof.Machine
end

section
/-! PROOFS. When a step faults (60_exceptions.md sections 1 and 2; O40, O41) and how fast TIMA counts
(60_exceptions.md section 3; O44). -/

namespace Sys2Proof.Machine

/-! ### The fault of a step -/

@[simp] theorem wakeUp_fault (s : State) : (wakeUp s).fault = s.fault := by
  unfold wakeUp
  split <;> rfl

@[simp] theorem deviceSteps_fault (s : State) : (deviceSteps s).fault = s.fault :=
  (deviceSteps_change s).toBus.fault

theorem service_fault (i : IntSource) (s : State) : (service i s).fault = s.fault := by
  obtain ⟨t, hm, ht⟩ := service_moves i s
  rw [ht]
  exact hm.fault

/-- What an instruction that records a fault is and does. -/
theorem exec_faults {i : Instr} {s t : State} {r : FaultRecord} (he : exec i s = .next t)
    (hs : s.fault = none) (ht : t.fault = some r) :
    t = { s with fault := some r } ∧
    ((∃ n, i = .stop n ∧ r = .stopUnsupported s.cycle s.cpu.pc 0x10) ∨
      (∃ row ∈ illegalRows, i = row.2 ∧ r = .illegalOpcode s.cycle s.cpu.pc row.1)) := by
  have records (r' : FaultRecord) (h : exec i s = .next { s with fault := some r' }) :
      t = { s with fault := some r' } ∧ r = r' := by
    obtain rfl := Host.Outcome.next.inj (he.symm.trans h)
    exact ⟨rfl, Option.some.inj ht.symm⟩
  by_cases hstop : ∃ n, i = .stop n
  · obtain ⟨n, rfl⟩ := hstop
    obtain ⟨ht', hr⟩ := records _ (stopAndIllegalBytesFault.1 n s).2
    exact ⟨hr ▸ ht', .inl ⟨n, rfl, hr⟩⟩
  by_cases hill : i ∈ illegalRows.map Prod.snd
  · obtain ⟨row, hrow, rfl⟩ := List.mem_map.mp hill
    obtain ⟨ht', hr⟩ := records _ ((stopAndIllegalBytesFault.2 row hrow).2 s)
    exact ⟨hr ▸ ht', .inr ⟨row, hrow, rfl, hr⟩⟩
  have kept := exec_fault he (fun n h => hstop ⟨n, h⟩) hill
  rw [ht, hs] at kept
  cases kept

/-- Settles O40: the next state exists and the tick is counted; a record is answered as it stands. -/
theorem aMachineWithoutAFaultAlwaysSteps : Obligations.AMachineWithoutAFaultAlwaysSteps := by
  refine ⟨fun s hf => ?_, fun s r hf => step_of_fault hf⟩
  obtain ⟨t, ht⟩ := step_next_of_no_fault hf
  exact ⟨t, ht, step_cycle ht⟩

/-- Settles O41: neither the devices nor a service record a fault, so the turn executed an instruction. -/
theorem onlyStopAndIllegalBytesFaultAStep : Obligations.OnlyStopAndIllegalBytesFaultAStep := by
  intro s t r hstep ht d
  obtain ⟨hf, u, turn, rfl⟩ := step_cases hstep
  have hd : d.fault = none := by rw [wakeUp_fault, deviceSteps_fault, hf]
  have hcycle : d.cycle = s.cycle := by rw [wakeUp_cycle, deviceSteps_cycle]
  have hu : u.fault = some r := ht
  cases turn with
  | idle _ => cases hu.symm.trans hd
  | serviced i _ _ => cases hu.symm.trans ((service_fault i d).trans hd)
  | executed _ hw hi he =>
    obtain ⟨rfl, hwhy⟩ := exec_faults he hd hu
    rw [show (wakeUp (deviceSteps s)).cycle = s.cycle from hcycle] at hw hwhy
    refine ⟨hw, hi, ?_, hwhy⟩
    rw [← hcycle]
    rfl

/-! ### The rate of TIMA -/

/-- The timer's state falls at the tick that completes a period. -/
theorem timerStateOf_falls_iff {tac : Byte} (h : tac.getLsbD 2 = true) (n : Nat) :
    (timerStateOf (BitVec.ofNat 16 (4 * n)) tac = true ∧
      timerStateOf (BitVec.ofNat 16 (4 * (n + 1))) tac = false) ↔ 2 ^ (tapOf tac + 1) / 4 ∣ n + 1 := by
  simp only [timerStateOf, h, Bool.true_and, BitVec.getLsbD_ofNat, Nat.testBit_eq_decide_div_mod_eq, tapOf]
  split_ifs <;> norm_num <;> omega

/-- A step of the timer that does not overflow TIMA. -/
theorem timerStep_timer {s : State} {n : Nat} (h : s.timer.tac.getLsbD 2 = true)
    (hn : (n + 1) / (2 ^ (tapOf s.timer.tac + 1) / 4) < 256)
    (hdivc : s.timer.divc = BitVec.ofNat 16 (4 * n))
    (htima : s.timer.tima = BitVec.ofNat 8 (n / (2 ^ (tapOf s.timer.tac + 1) / 4))) :
    (timerStep s).timer = { s.timer with
      divc := BitVec.ofNat 16 (4 * (n + 1))
      tima := BitVec.ofNat 8 ((n + 1) / (2 ^ (tapOf s.timer.tac + 1) / 4)) } := by
  have hnext : s.timer.divc + 4 = BitVec.ofNat 16 (4 * (n + 1)) := by
    rw [hdivc, Nat.mul_succ, BitVec.ofNat_add]
    rfl
  rw [(theTimerCountsFallingEdges s 0).1, afterEdge, hnext, hdivc]
  simp only [timerStateOf_falls_iff h]
  rw [Nat.succ_div] at hn ⊢
  generalize n / (2 ^ (tapOf s.timer.tac + 1) / 4) = k at *
  split_ifs at hn ⊢ with hedge hfull
  · have hmod : k % 256 = 255 := congrArg BitVec.toNat (htima.symm.trans hfull)
    omega
  · simp [htima, BitVec.ofNat_add]
  · simp [htima]

/-- Settles O44: by induction on the number of steps, the timer's registers are those of the count. -/
theorem timaRisesOncePerPeriod : Obligations.TimaRisesOncePerPeriod := by
  intro s n period hdivc htima htac hn
  have counted : (timerStep^[n] s).timer = { s.timer with
      divc := BitVec.ofNat 16 (4 * n), tima := BitVec.ofNat 8 (n / period) } := by
    induction n with
    | zero =>
      rw [Nat.zero_div]
      exact congrArg₂ (fun divc tima => { s.timer with divc := divc, tima := tima }) hdivc htima
    | succ n ih =>
      have ih := ih ((Nat.div_le_div_right n.le_succ).trans_lt hn)
      rw [Function.iterate_succ_apply', timerStep_timer (n := n)] <;> simp [ih, htac, hn, period]
  rw [counted]
  exact ⟨Nat.mod_eq_of_lt hn, rfl⟩

end Sys2Proof.Machine
end

section
/-! PROOFS. What a step or a host event keeps (60_exceptions.md sections 1 and 6; O42). A predicate is kept by
the CPU's turn when CPU register updates and bus writes keep it; a step adds the devices' part and the count of
the tick, a host event the fault record of RunUntil and the joypad. -/

namespace Sys2Proof.Machine

/-! ### The CPU's turn -/

/-- `t` is `s` with another CPU, high RAM excepted, or another fault state. -/
def CpuChange (s t : State) : Prop :=
  ∃ cpu fault, t = { s with cpu := cpu, fault := fault } ∧ cpu.hram = s.cpu.hram

theorem RegisterChange.cpuChange {s t : State} (h : RegisterChange s t) : CpuChange s t := by
  obtain ⟨_, _, rfl, _, _, hhram⟩ := h
  exact ⟨_, _, rfl, hhram⟩

theorem wakeUp_cpuChange (s : State) : CpuChange s (wakeUp s) := by
  unfold wakeUp
  split <;> exact ⟨_, _, rfl, rfl⟩

/-- `P` is kept by updates of CPU registers and by bus writes, so by all that the CPU does. -/
structure KeptByCpu (P : State → Prop) : Prop where
  cpu : ∀ {s t}, CpuChange s t → P s → P t
  busWrite : ∀ {s} a v, P s → P (s.busWrite a v)

theorem KeptByCpu.moves {P : State → Prop} (k : KeptByCpu P) {s t : State} {ws : List Word}
    (h : Moves s ws t) (hs : P s) : P t :=
  h.induction (motive := fun _ => P) hs (fun hr => k.cpu hr.cpuChange) k.busWrite

theorem KeptByCpu.turn {P : State → Prop} (k : KeptByCpu P) {s t : State} (h : CpuTurn s t) (hs : P s) :
    P t := by
  have retire {u : State} (npc : Word) (n : Nat) (hu : P u) : P (u.retire npc n) :=
    k.cpu (retire_registerChange u npc n).cpuChange hu
  cases h with
  | idle _ => exact hs
  | serviced i _ _ =>
    obtain ⟨u, hm, ht⟩ := service_moves i s
    rw [ht]
    exact retire _ _ (k.moves hm (k.cpu ⟨_, _, rfl, rfl⟩ hs))
  | executed _ _ _ he =>
    rcases exec_next_cases he with ⟨u, npc, n, hm, _, _, rfl⟩ | ⟨_, rfl⟩ | ⟨_, r, rfl⟩
    · exact retire npc n (k.moves hm hs)
    · exact k.cpu ⟨_, _, rfl, rfl⟩ hs
    · exact k.cpu ⟨_, _, rfl, rfl⟩ hs

/-! ### A step and a host event -/

/-- A step leads to a state satisfying `Q` before the tick is counted, when the devices' part does and the CPU
keeps it. -/
theorem KeptByCpu.step {Q : State → Prop} (k : KeptByCpu Q) {s t : State} (h : step s = .next t)
    (devices : Q (deviceSteps s)) : ∃ u, Q u ∧ t = u.advanceCycle := by
  obtain ⟨_, u, turn, ht⟩ := step_cases h
  exact ⟨u, k.turn turn (k.cpu (wakeUp_cpuChange _) devices), ht⟩

theorem runTicks_keeps {P : State → Prop} (step : ∀ {s t}, step s = .next t → P s → P t) (n : Nat)
    {s : State} (hs : P s) : P (runTicks n s) := by
  induction n generalizing s with
  | zero => exact hs
  | succ n ih =>
    cases hf : s.fault with
    | some r => rwa [runTicks_of_fault hf]
    | none =>
      obtain ⟨t, ht⟩ := step_next_of_no_fault hf
      rw [runTicks_succ ht]
      exact ih (step ht hs)

theorem hostEvent_keeps {P : State → Prop} (step : ∀ {s t}, step s = .next t → P s → P t)
    (fault : ∀ {s} r, P s → P (s.raiseFatal r))
    (select : ∀ {s} line0 line1 q, P s → P (afterSelect s line0 line1 q)) (e : HostEvent) {s : State}
    (hs : P s) : P (hostEvent e s) := by
  cases e with
  | runUntil c => exact iteInduction (fun _ => fault _ hs) fun _ => runTicks_keeps step _ hs
  | keyPressed k =>
    rw [hostEvent, keyPressed_eq]
    exact select _ _ _ hs
  | keyReleased k =>
    rw [hostEvent, keyReleased_eq]
    exact select _ _ _ hs

/-! ### The images and BOOT_EN -/

/-- `t` has the images of `s`, and the boot ROM disabled if it was. -/
def SameImages (s t : State) : Prop :=
  t.bootRom = s.bootRom ∧ t.cartridge = s.cartridge ∧ (s.bootEn = false → t.bootEn = false)

theorem SameImages.trans {s t u : State} (h : SameImages s t) (k : SameImages t u) : SameImages s u := by
  obtain ⟨hboot, hcart, hen⟩ := h
  obtain ⟨kboot, kcart, ken⟩ := k
  exact ⟨kboot.trans hboot, kcart.trans hcart, ken ∘ hen⟩

theorem DeviceChange.sameImages {s t : State} (h : DeviceChange s t) : SameImages s t := by
  obtain ⟨_, _, _, _, rfl⟩ := h
  exact ⟨rfl, rfl, id⟩

theorem CpuChange.sameImages {s t : State} (h : CpuChange s t) : SameImages s t := by
  obtain ⟨_, _, rfl, _⟩ := h
  exact ⟨rfl, rfl, id⟩

/-- BOOT_EN is written by 0xFF50 alone, and only to 0 (R79). -/
theorem busWrite_sameImages (s : State) (a : Word) (v : Byte) : SameImages s (s.busWrite a v) := by
  obtain ⟨hboot, hcart⟩ := (busWrite_change s a v).roms
  refine ⟨hboot, hcart, fun hs => ?_⟩
  rcases busWrite_cases s a v with h | h | ⟨_, _, h⟩ | h | h | h | h <;> rw [h]
  · exact hs
  · unfold cpuWrite
    split_ifs <;> exact hs
  · exact hs
  · exact (timerWrite_change s _ v).sameImages.2.2 hs
  · exact (lcdWrite_change s _ v).sameImages.2.2 hs
  · exact (joypadWrite_change s _ v).sameImages.2.2 hs

theorem sameImages_keptByCpu (s : State) : KeptByCpu (SameImages s) where
  cpu h ht := ht.trans h.sameImages
  busWrite a v ht := ht.trans (busWrite_sameImages _ a v)

theorem step_sameImages {s t : State} (h : step s = .next t) : SameImages s t := by
  obtain ⟨u, hu, rfl⟩ := (sameImages_keptByCpu s).step h (deviceSteps_change s).sameImages
  exact hu

/-- Settles O42: only a write of 0xFF50 reaches BOOT_EN, and nothing reaches the images. -/
theorem imagesNeverChangeAndTheBootRomStaysDisabled :
    Obligations.ImagesNeverChangeAndTheBootRomStaysDisabled :=
  ⟨fun _ _ => step_sameImages, fun s e => hostEvent_keeps (P := SameImages s)
    (fun h hs => hs.trans (step_sameImages h)) (fun _ hs => hs) (fun _ _ _ hs => hs) e
    ⟨rfl, rfl, id⟩⟩

end Sys2Proof.Machine
end

section
/-! PROOFS. The memories stay canonical and the registers legal (10_state.md sections 1 to 8; O57, O58). First
what each device's step changes; then that the devices' part of a tick and every bus write keep the memories and
the devices' registers, and that instructions and services keep F and the wake-up cycle. -/

namespace Sys2Proof.Machine

/-! ### What the devices' steps change -/

/-- `t` is `s` with another state of the LCD's mode state machine and other requests. -/
def ModeChange (s t : State) : Prop :=
  ∃ stat ly phase next wline frameBuf curImage iflag, t = { s with
    lcd := { s.lcd with stat := stat, ly := ly, phase := phase, next := next, wline := wline,
                        frameBuf := frameBuf, curImage := curImage }
    cpu := { s.cpu with iflag := iflag } }

theorem ModeChange.refl (s : State) : ModeChange s s := ⟨_, _, _, _, _, _, _, _, rfl⟩

theorem ModeChange.trans {s t u : State} (h : ModeChange s t) (k : ModeChange t u) : ModeChange s u := by
  obtain ⟨_, _, _, _, _, _, _, _, rfl⟩ := h
  obtain ⟨_, _, _, _, _, _, _, _, rfl⟩ := k
  exact ⟨_, _, _, _, _, _, _, _, rfl⟩

theorem scheduleLcd_mode (s : State) (n : Nat) : ModeChange s (s.scheduleLcd n) :=
  ⟨_, _, _, _, _, _, _, _, rfl⟩

theorem setPhase_mode (s : State) (p : Phase) : ModeChange s (s.setPhase p) :=
  ⟨_, _, _, _, _, _, _, _, rfl⟩

theorem setLine_mode (s : State) (line : Byte) : ModeChange s (s.setLine line) :=
  ⟨_, _, _, _, _, _, _, _, setLine_eq s line⟩

theorem enterMode_mode (s : State) (m : BitVec 2) : ModeChange s (s.enterMode m) :=
  ⟨_, _, _, _, _, _, _, _, enterMode_eq s m⟩

theorem beginFrame_mode (s : State) : ModeChange s s.beginFrame := ⟨_, _, _, _, _, _, _, _, rfl⟩

theorem publishFrame_mode (s : State) : ModeChange s s.publishFrame := by
  unfold State.publishFrame
  split
  · exact ⟨_, _, _, _, _, _, _, _, rfl⟩
  · exact .refl s

theorem appendLine_mode (s : State) : ModeChange s s.appendLine := ⟨_, _, _, _, _, _, _, _, rfl⟩

theorem enterLine_mode (s : State) (line : Byte) : ModeChange s (s.enterLine line) := by
  have begin : ModeChange s (if line = 0 then s.beginFrame else s) :=
    iteInduction (fun _ => beginFrame_mode s) fun _ => .refl s
  exact (((begin.trans (setLine_mode _ _)).trans (setPhase_mode _ _)).trans (enterMode_mode _ _)).trans
    (scheduleLcd_mode _ _)

theorem endMode2_mode (s : State) : ModeChange s s.endMode2 :=
  (((setPhase_mode s _).trans (enterMode_mode _ _)).trans (appendLine_mode _)).trans (scheduleLcd_mode _ _)

theorem endMode3_mode (s : State) : ModeChange s s.endMode3 :=
  ((setPhase_mode s _).trans (enterMode_mode _ _)).trans (scheduleLcd_mode _ _)

theorem endMode0_mode (s : State) : ModeChange s s.endMode0 :=
  iteInduction (fun _ => enterLine_mode s _) fun _ =>
    ((((setPhase_mode s _).trans (setLine_mode _ _)).trans (enterMode_mode _ _)).trans
      (publishFrame_mode _)).trans (scheduleLcd_mode _ _)

theorem stepMode1_mode (s : State) : ModeChange s s.stepMode1 :=
  iteInduction (fun _ => (setLine_mode s _).trans (scheduleLcd_mode _ _)) fun _ => enterLine_mode s 0

theorem modeStep_mode (s : State) : ModeChange s (modeStep s) := by
  unfold modeStep
  split
  · cases s.lcd.phase with
    | off => exact .refl s
    | starting => exact enterLine_mode s 0
    | mode2 => exact endMode2_mode s
    | mode3 => exact endMode3_mode s
    | mode0 => exact endMode0_mode s
    | mode1 => exact stepMode1_mode s
  · exact .refl s

theorem timerStep_eq (s : State) : ∃ tima iflag, timerStep s = { s with
    timer := { s.timer with divc := s.timer.divc + 4, tima := tima }
    cpu := { s.cpu with iflag := iflag } } :=
  incIfFalling_eq { s with timer := { s.timer with divc := s.timer.divc + 4 } } s.timer.signal

/-! ### The memories -/

theorem ModeChange.canonical {s t : State} (h : ModeChange s t) (hs : s.Canonical) : t.Canonical := by
  obtain ⟨_, _, _, _, _, _, _, _, rfl⟩ := h
  exact { hs with }

theorem CpuChange.canonical {s t : State} (h : CpuChange s t) (hs : s.Canonical) : t.Canonical := by
  obtain ⟨_, _, rfl, hhram⟩ := h
  exact { hs with hram := hhram ▸ hs.hram }

theorem timerStep_canonical {s : State} (hs : s.Canonical) : (timerStep s).Canonical := by
  obtain ⟨_, _, h⟩ := timerStep_eq s
  rw [h]
  exact { hs with }

/-- The index of a running copy is inside OAM (R560). -/
theorem dmaStep_canonical {s : State} (hs : s.Canonical)
    (hdma : s.lcd.dmaActive = true → s.lcd.dmaIdx < 160) : (dmaStep s).Canonical :=
  iteInduction (fun h => { hs with oam := Memory.ok_write _ (hdma h) hs.oam }) fun _ => hs

theorem cpuWrite_canonical {s : State} (w : Nat) (v : Byte) (hs : s.Canonical) :
    (cpuWrite s w v).Canonical := by
  unfold cpuWrite
  split_ifs with _ hhram
  · exact { hs with }
  · exact { hs with hram := Memory.ok_write v (by omega) hs.hram }
  · exact { hs with }
  · exact hs

theorem lcdWrite_canonical {s : State} (w : Nat) (v : Byte) (hs : s.Canonical) :
    (lcdWrite s w v).Canonical := by
  refine lcdWrite_induction (motive := fun _ t => t.Canonical) s v ?vram ?oam ?lcdc ?stat ?lyc ?dma ?scy
    ?scx ?bgp ?obp0 ?obp1 ?wy ?wx ?ignored w
  case vram => exact fun w hw => { hs with vram := Memory.ok_write v (by omega) hs.vram }
  case oam => exact fun w hw => { hs with oam := Memory.ok_write v (by omega) hs.oam }
  case lcdc =>
    obtain ⟨_, _, _, _, _, _, h⟩ := writeLcdc_eq s v
    rw [h]
    exact { hs with }
  case lyc =>
    rw [compareLine_eq]
    exact { hs with }
  case ignored => exact fun _ => hs
  all_goals exact { hs with }

theorem busWrite_canonical {s : State} (a : Word) (v : Byte) (hs : s.Canonical) :
    (s.busWrite a v).Canonical := by
  rcases busWrite_cases s a v with h | h | ⟨k, hk, h⟩ | h | h | h | h <;> rw [h]
  · exact hs
  · exact cpuWrite_canonical _ v hs
  · exact { hs with wram := Memory.ok_write v hk hs.wram }
  · exact { hs with }
  · obtain ⟨_, _, _, _, _, h, _⟩ := timerWrite_eq s a.toNat v
    rw [h]
    exact { hs with }
  · exact lcdWrite_canonical _ v hs
  · rw [joypadWrite_eq]
    exact iteInduction (fun _ => { hs with }) fun _ => hs

theorem canonical_keptByCpu : KeptByCpu State.Canonical where
  cpu h hs := h.canonical hs
  busWrite a v hs := busWrite_canonical a v hs

/-- Settles O57: a running copy writes inside OAM because the DMA index is legal, every other write of a memory
is inside its region by its address. -/
theorem stepsKeepMemoriesCanonical : Obligations.StepsKeepMemoriesCanonical := by
  intro s t hs hl h
  have hdma : (timerStep s).lcd.dmaActive = true → (timerStep s).lcd.dmaIdx < 160 := by
    obtain ⟨_, _, h⟩ := timerStep_eq s
    rw [h]
    exact hl.dma.2
  obtain ⟨u, hu, rfl⟩ := canonical_keptByCpu.step h
    ((modeStep_mode _).canonical (dmaStep_canonical (timerStep_canonical hs) hdma))
  exact { hu with }

/-! ### The devices' registers -/

/-- The part of the legality of a state that concerns the timer, the DMA engine and the joypad. -/
def State.DevicesLegal (s : State) : Prop :=
  s.timer.divc.toNat % 4 = 0 ∧
  (s.lcd.dmaIdx ≤ 160 ∧ (s.lcd.dmaActive = true → s.lcd.dmaIdx < 160)) ∧
  s.joypad.p1i.extractLsb' 0 4 = s.joypad.keyBits

theorem State.Legal.devices {s : State} (h : s.Legal) : s.DevicesLegal := ⟨h.divc, h.dma, h.keys⟩

theorem ModeChange.devicesLegal {s t : State} (h : ModeChange s t) (hs : s.DevicesLegal) :
    t.DevicesLegal := by
  obtain ⟨_, _, _, _, _, _, _, _, rfl⟩ := h
  exact hs

theorem timerStep_devicesLegal {s : State} (hs : s.DevicesLegal) : (timerStep s).DevicesLegal := by
  obtain ⟨hdivc, hrest⟩ := hs
  obtain ⟨_, _, h⟩ := timerStep_eq s
  rw [h]
  refine ⟨?_, hrest⟩
  change (s.timer.divc + 4).toNat % 4 = 0
  bv_omega

theorem dmaStep_devicesLegal {s : State} (hs : s.DevicesLegal) : (dmaStep s).DevicesLegal := by
  obtain ⟨hdivc, ⟨hle, hlt⟩, hkeys⟩ := hs
  refine iteInduction (fun hrun => ⟨hdivc, ⟨hlt hrun, fun hnext => ?_⟩, hkeys⟩)
    fun _ => ⟨hdivc, ⟨hle, hlt⟩, hkeys⟩
  have hne : s.lcd.dmaIdx + 1 ≠ 160 := of_decide_eq_true hnext
  have := hlt hrun
  change s.lcd.dmaIdx + 1 < 160
  omega

theorem deviceSteps_devicesLegal {s : State} (hs : s.DevicesLegal) : (deviceSteps s).DevicesLegal :=
  (modeStep_mode _).devicesLegal (dmaStep_devicesLegal (timerStep_devicesLegal hs))

/-- P1I as a recomputation leaves it reports the selected keys (R592). -/
theorem afterSelect_devicesLegal {s : State} (line0 line1 : BitVec 4) (select : BitVec 2)
    (hs : s.DevicesLegal) : (afterSelect s line0 line1 select).DevicesLegal := by
  obtain ⟨hdivc, hdma, hkeys⟩ := hs
  refine ⟨hdivc, hdma, ?_⟩
  rw [afterSelect, keyBits_eq, keys_extract]
  split_ifs <;> rfl

theorem lcdWrite_devicesLegal {s : State} (w : Nat) (v : Byte) (hs : s.DevicesLegal) :
    (lcdWrite s w v).DevicesLegal := by
  refine lcdWrite_induction (motive := fun _ t => t.DevicesLegal) s v ?vram ?oam ?lcdc ?stat ?lyc ?dma ?scy
    ?scx ?bgp ?obp0 ?obp1 ?wy ?wx ?ignored w
  case lcdc =>
    obtain ⟨_, _, _, _, _, _, h⟩ := writeLcdc_eq s v
    rw [h]
    exact hs
  case lyc =>
    rw [compareLine_eq]
    exact hs
  case dma => exact ⟨hs.1, ⟨Nat.zero_le 160, fun _ => Nat.succ_pos 159⟩, hs.2.2⟩
  case vram | oam => exact fun _ _ => hs
  case ignored => exact fun _ => hs
  all_goals exact hs

theorem busWrite_devicesLegal {s : State} (a : Word) (v : Byte) (hs : s.DevicesLegal) :
    (s.busWrite a v).DevicesLegal := by
  rcases busWrite_cases s a v with h | h | ⟨_, _, h⟩ | h | h | h | h <;> rw [h]
  · exact hs
  · unfold cpuWrite
    split_ifs <;> exact hs
  · exact hs
  · exact hs
  · obtain ⟨_, _, _, _, _, h, hdivc, _⟩ := timerWrite_eq s a.toNat v
    rw [h]
    refine ⟨?_, hs.2⟩
    rcases hdivc with rfl | ⟨_, rfl⟩
    · exact hs.1
    · rfl
  · exact lcdWrite_devicesLegal _ v hs
  · rw [joypadWrite_eq]
    exact iteInduction (fun _ => afterSelect_devicesLegal _ _ _ hs) fun _ => hs

theorem devicesLegal_keptByCpu : KeptByCpu State.DevicesLegal where
  cpu h hs := by
    obtain ⟨_, _, rfl, _⟩ := h
    exact hs
  busWrite a v hs := busWrite_devicesLegal a v hs

/-! ### F and the wake-up cycle -/

/-- Every write of F clears its low four bits (R32). -/
theorem Cpu.setF_flags (u : Cpu) (v : Byte) : (u.setF v).f &&& 0x0F = 0 := by
  change v &&& 0xF0 &&& 0x0F = 0
  rw [BitVec.and_assoc]
  exact BitVec.and_zero

theorem Moves.flags {s t : State} {ws : List Word} (h : Moves s ws t) (hs : s.cpu.f &&& 0x0F = 0) :
    t.cpu.f &&& 0x0F = 0 := by
  induction h with
  | refl => exact hs
  | setReg _ r v ih => rwa [State.setReg_cpu, Cpu.setReg_f]
  | setF _ v _ => exact Cpu.setF_flags _ v
  | setHL _ _ ih | setSP _ _ ih | setIME _ _ ih => exact ih
  | setPair _ p _ ih => cases p <;> exact ih
  | setStackPair _ p v ih =>
    cases p with
    | af => exact Cpu.setF_flags _ _
    | bc | de | hl => exact ih
  | busWrite _ a v ih => rwa [(busWrite_change _ a v).f]

theorem Moves.wake {s t : State} {ws : List Word} (h : Moves s ws t) : t.cpu.wake = s.cpu.wake := by
  induction h with
  | refl => rfl
  | setReg _ r v ih => rwa [State.setReg_cpu, Cpu.setReg_wake]
  | setF _ _ ih | setHL _ _ ih | setSP _ _ ih | setIME _ _ ih => exact ih
  | setPair _ p _ ih | setStackPair _ p _ ih => cases p <;> exact ih
  | busWrite _ a v ih => exact (busWrite_change _ a v).wake.trans ih

theorem CpuTurn.flags {s t : State} (h : CpuTurn s t) (hs : s.cpu.f &&& 0x0F = 0) :
    t.cpu.f &&& 0x0F = 0 := by
  cases h with
  | idle _ => exact hs
  | serviced i _ _ =>
    obtain ⟨u, hm, ht⟩ := service_moves i s
    rw [ht]
    exact hm.flags hs
  | executed _ _ _ he =>
    rcases exec_next_cases he with ⟨u, npc, n, hm, _, _, rfl⟩ | ⟨_, rfl⟩ | ⟨_, r, rfl⟩
    · exact hm.flags hs
    · exact hs
    · exact hs

/-- What the CPU does when it is due moves its wake-up cycle past the tick, unless it halts or faults. -/
theorem CpuTurn.clock {s t : State} (h : CpuTurn s t) (hs : ∀ w, s.cpu.wake = some w → s.cycle ≤ w)
    (ht : t.fault = none) (w : Nat) (hw : t.cpu.wake = some w) : s.cycle < w := by
  have charged {u : State} {n : Nat} (hdue : s.cpu.wake = some s.cycle) (hu : u.cpu.wake = s.cpu.wake)
      (hn : 0 < n) (hw : u.cpu.wake.map (· + n) = some w) : s.cycle < w := by
    rw [hu, hdue] at hw
    obtain rfl : s.cycle + n = w := Option.some.inj hw
    omega
  cases h with
  | idle hidle => exact lt_of_le_of_ne (hs w hw) fun h => hidle (h ▸ hw)
  | serviced i hdue _ =>
    obtain ⟨u, hm, hu⟩ := service_moves i s
    rw [hu] at hw
    exact charged hdue hm.wake (by decide) hw
  | executed _ hdue _ he =>
    rcases exec_next_cases he with ⟨u, npc, n, hm, hn, _, rfl⟩ | ⟨_, rfl⟩ | ⟨_, r, rfl⟩
    · exact charged hdue hm.wake hn hw
    · cases hw
    · cases ht

theorem wakeUp_clock {s : State} (hs : ∀ w, s.cpu.wake = some w → s.cycle ≤ w) (w : Nat)
    (hw : (wakeUp s).cpu.wake = some w) : s.cycle ≤ w := by
  unfold wakeUp at hw
  split_ifs at hw
  · exact (Option.some.inj hw).le
  · exact hs w hw

theorem wakeUp_f (s : State) : (wakeUp s).cpu.f = s.cpu.f := by
  unfold wakeUp
  split <;> rfl

/-- Settles O58: the devices' registers by `devicesLegal_keptByCpu`, F and the wake-up cycle by the CPU's turn,
before which no device reaches them. -/
theorem stepsKeepRegistersLegal : Obligations.StepsKeepRegistersLegal := by
  intro s t hs h
  obtain ⟨hf, u, turn, rfl⟩ := step_cases h
  have hdev := (deviceSteps_change s).toBus
  obtain ⟨hdivc, hdma, hkeys⟩ := devicesLegal_keptByCpu.turn turn
    (devicesLegal_keptByCpu.cpu (wakeUp_cpuChange _) (deviceSteps_devicesLegal hs.devices))
  have hclock : ∀ w, (deviceSteps s).cpu.wake = some w → (deviceSteps s).cycle ≤ w := by
    rw [hdev.wake, hdev.cycle]
    exact hs.clock hf
  refine ⟨turn.flags ?_, fun hu w hw => ?_, hdivc, hdma, hkeys⟩
  · rw [wakeUp_f, hdev.f]
    exact hs.flags
  · rw [State.advanceCycle_cycle, turn.cycle]
    exact turn.clock (fun w hw => (wakeUp_cycle _).trans_le (wakeUp_clock hclock w hw)) hu w hw

end Sys2Proof.Machine
end

section
/-! PROOFS. The LCD's mode state machine stays consistent (10_state.md sections 5 and 6, 60_exceptions.md section
4; O59). A line event leads from each phase to a state that is consistent in the next tick; of the bus writes only
those of LCDC, STAT and LYC reach the registers concerned. -/

namespace Sys2Proof.Machine

/-- The LCD of `s` will be consistent once the tick is counted, so no step of it is left over for this tick. -/
def State.LcdConsistentNext (s : State) : Prop := s.advanceCycle.LcdConsistent

theorem length_renderLine (v : Lcd) (y : Nat) : (v.renderLine y).length = Config.screenWidth := by
  rw [renderLine_eq]
  exact length_composite (length_backgroundAndWindow v y) (length_groupLine v y _) (length_groupLine v y _)

/-! ### The mode step -/

/-- A line event leads to a consistent LCD when its line, its frame and its image suit its phase. -/
theorem LineEvent.lcdConsistentNext {s t : State} {p : Phase} {ly wline : Byte} {delay : Nat}
    {compared vblank stat : Prop} {frame : Option (List Line)} {image : List ColorRow}
    (h : LineEvent s t p ly wline delay compared vblank stat frame image)
    (hpower : s.lcd.lcdc.getLsbD 7 = true) (hp : p ≠ .off) (hdelay : 0 < delay)
    (hline : p.lineOk ly.toNat = true) (hframe : frame.map List.length = p.linesBuilt ly.toNat)
    (hwidth : ∀ lines, frame = some lines → ∀ ln ∈ lines, ln.length = Config.screenWidth)
    (himage : image.length = Config.screenHeight ∧ ∀ row ∈ image, row.length = Config.screenWidth) :
    t.LcdConsistentNext := by
  obtain ⟨_, _, rfl, hmode, _⟩ := h
  refine ⟨⟨fun h => (nomatch h), fun h => absurd h hp⟩, fun n hn => ?_, ⟨fun _ => hp, fun _ => hpower⟩, hmode,
    hline, hframe, hwidth, himage⟩
  obtain rfl := Option.some.inj hn
  exact Nat.add_le_add_left hdelay s.cycle

/-- The line begun has no pixels yet. -/
theorem enterLine_zero_lcdConsistentNext {s t : State} {wline : Byte} {compared vblank stat : Prop}
    (hs : s.LcdConsistent) (hpower : s.lcd.lcdc.getLsbD 7 = true)
    (h : LineEvent s t .mode2 0 wline 20 compared vblank stat (some []) s.lcd.curImage) :
    t.LcdConsistentNext :=
  h.lcdConsistentNext hpower (by decide) (by decide) rfl rfl
    (fun _ hl _ hln => by simp [← Option.some.inj hl] at hln) hs.image

theorem endMode2_lcdConsistentNext {s : State} (hs : s.LcdConsistent) (hpower : s.lcd.lcdc.getLsbD 7 = true)
    (hp : s.lcd.phase = .mode2) : s.endMode2.LcdConsistentNext := by
  have hline := hs.line
  have hframe := hs.frame
  rw [hp] at hline hframe
  obtain ⟨lines, hlines, hlength⟩ := Option.map_eq_some_iff.mp hframe
  have event := endMode2_event s
  rw [hlines] at event
  refine event.lcdConsistentNext hpower (by decide) (by decide) hline ?_ ?_ hs.image
  · simp [hlength, Phase.linesBuilt]
  · rintro _ hl ln hln
    obtain rfl := Option.some.inj hl
    rcases List.mem_append.mp hln with hold | hnew
    · exact hs.width lines hlines ln hold
    · rw [List.mem_singleton.mp hnew, length_renderLine]

theorem endMode0_lcdConsistentNext {s : State} (hs : s.LcdConsistent) (hpower : s.lcd.lcdc.getLsbD 7 = true)
    (hp : s.lcd.phase = .mode0) : s.endMode0.LcdConsistentNext := by
  have hline := hs.line
  have hframe := hs.frame
  rw [hp] at hline hframe
  have hle : s.lcd.ly.toNat ≤ 143 := of_decide_eq_true hline
  by_cases hl : s.lcd.ly.toNat < 143
  · have hnext : (s.lcd.ly + 1).toNat = s.lcd.ly.toNat + 1 := by bv_omega
    refine (endMode0_event_of_lt hl).lcdConsistentNext hpower (by decide) (by decide) ?_ ?_ hs.width hs.image
    · rw [hnext]
      exact decide_eq_true hl
    · rwa [hnext]
  · obtain ⟨lines, hlines, hlength⟩ := Option.map_eq_some_iff.mp hframe
    refine (endMode0_event_of_last (by omega) hlines).lcdConsistentNext hpower (by decide) (by decide) rfl rfl
      (fun _ h => nomatch h) ⟨?_, fun row hrow => ?_⟩
    · rw [List.length_map, hlength, show s.lcd.ly.toNat = 143 by omega]
      rfl
    · obtain ⟨ln, hln, rfl⟩ := List.mem_map.mp hrow
      exact (List.length_map _).trans (hs.width lines hlines ln hln)

theorem stepMode1_lcdConsistentNext {s : State} (hs : s.LcdConsistent) (hpower : s.lcd.lcdc.getLsbD 7 = true)
    (hp : s.lcd.phase = .mode1) : s.stepMode1.LcdConsistentNext := by
  have hline := hs.line
  have hframe := hs.frame
  rw [hp] at hline hframe
  obtain ⟨hlo, hhi⟩ : 144 ≤ s.lcd.ly.toNat ∧ s.lcd.ly.toNat ≤ 153 := of_decide_eq_true hline
  by_cases hl : s.lcd.ly.toNat < 153
  · have hnext : (s.lcd.ly + 1).toNat = s.lcd.ly.toNat + 1 := by bv_omega
    refine (stepMode1_event_of_lt hp (hp ▸ hs.mode) hl).lcdConsistentNext hpower (by decide) (by decide) ?_
      hframe hs.width hs.image
    rw [hnext]
    exact decide_eq_true ⟨by omega, hl⟩
  · exact enterLine_zero_lcdConsistentNext hs hpower (stepMode1_event_of_last (by omega))

theorem modeStep_lcdConsistentNext {s : State} (hs : s.LcdConsistent) : (modeStep s).LcdConsistentNext := by
  by_cases hdue : s.lcd.next = some s.cycle
  · have hon : s.lcd.phase ≠ .off := fun h => Option.some_ne_none _ (hdue.symm.trans (hs.scheduled.mpr h))
    have hpower := hs.power.mpr hon
    rw [modeStep, if_pos hdue]
    cases hp : s.lcd.phase with
    | off => exact absurd hp hon
    | starting => exact enterLine_zero_lcdConsistentNext hs hpower (enterLine_zero_event s)
    | mode2 => exact endMode2_lcdConsistentNext hs hpower hp
    | mode3 =>
      have hline := hs.line
      have hframe := hs.frame
      rw [hp] at hline hframe
      exact (endMode3_event s).lcdConsistentNext hpower (by decide) (by decide) hline hframe hs.width hs.image
    | mode0 => exact endMode0_lcdConsistentNext hs hpower hp
    | mode1 => exact stepMode1_lcdConsistentNext hs hpower hp
  · rw [modeStep_of_not_due hdue]
    exact { hs with clock := fun n hn => lt_of_le_of_ne (hs.clock n hn) fun h => hdue (h ▸ hn) }

theorem deviceSteps_lcdConsistentNext {s : State} (hs : s.LcdConsistent) :
    (deviceSteps s).LcdConsistentNext := by
  have htimer : (timerStep s).LcdConsistent := by
    obtain ⟨_, _, h⟩ := timerStep_eq s
    rw [h]
    exact { hs with }
  exact modeStep_lcdConsistentNext (iteInduction (fun _ => { htimer with }) fun _ => htimer)

/-! ### Bus writes -/

theorem writeLcdc_lcdConsistentNext {s : State} (v : Byte) (hs : s.LcdConsistentNext) :
    (s.writeLcdc v).LcdConsistentNext := by
  by_cases hkept : v.getLsbD 7 = true ↔ s.lcd.phase ≠ .off
  · rw [writeLcdc_stored hkept]
    exact { hs with power := hkept }
  cases hv : v.getLsbD 7 with
  | false =>
    have hclear : ¬v.getLsbD 7 = true := Bool.eq_false_iff.mp hv
    have hp : s.lcd.phase ≠ .off := fun h => hkept (iff_of_false hclear (not_not.mpr h))
    rw [writeLcdc_off hv hp, compareLine_eq]
    refine ⟨⟨fun _ => rfl, fun _ => rfl⟩, fun n h => (nomatch h), iff_of_false hclear (not_not.mpr rfl), ?_, rfl,
      rfl, fun _ h => (nomatch h), hs.image⟩
    rw [← statWithMode_zero]
    exact (statWithMatch_mode _ _).trans (statWithMode_mode _ _)
  | true =>
    have hp : s.lcd.phase = .off := not_not.mp fun h => hkept (iff_of_true hv h)
    rw [writeLcdc_on hv hp]
    have hmode : s.lcd.stat.extractLsb' 0 2 = s.lcd.phase.mode := hs.mode
    have hline : s.lcd.phase.lineOk s.lcd.ly.toNat = true := hs.line
    have hframe : s.lcd.frameBuf.map List.length = s.lcd.phase.linesBuilt s.lcd.ly.toNat := hs.frame
    rw [hp] at hmode hline hframe
    refine ⟨⟨fun h => (nomatch h), fun h => (nomatch h)⟩, fun n h => ?_, iff_of_true hv nofun, hmode, hline,
      hframe, hs.width, hs.image⟩
    obtain rfl := Option.some.inj h
    exact Nat.add_le_add_left (by decide : 1 ≤ 19) s.cycle

/-- Bits 2..0 of STAT are not written (R553). -/
theorem statWritten_mode (v stat : Byte) :
    ((v &&& 0xF8) ||| (stat &&& 0x07)).extractLsb' 0 2 = stat.extractLsb' 0 2 :=
  extractLsb'_congr fun k _ hk => by interval_cases k <;> simp

theorem lcdWrite_lcdConsistentNext {s : State} (w : Nat) (v : Byte) (hs : s.LcdConsistentNext) :
    (lcdWrite s w v).LcdConsistentNext := by
  refine lcdWrite_induction (motive := fun _ t => t.LcdConsistentNext) s v ?vram ?oam ?lcdc ?stat ?lyc ?dma
    ?scy ?scx ?bgp ?obp0 ?obp1 ?wy ?wx ?ignored w
  case lcdc => exact writeLcdc_lcdConsistentNext v hs
  case stat => exact { hs with mode := (statWritten_mode v _).trans hs.mode }
  case lyc =>
    rw [compareLine_eq]
    exact { hs with mode := (statWithMatch_mode _ _).trans hs.mode }
  case vram | oam => exact fun _ _ => { hs with }
  case ignored => exact fun _ => hs
  all_goals exact { hs with }

theorem busWrite_lcdConsistentNext {s : State} (a : Word) (v : Byte) (hs : s.LcdConsistentNext) :
    (s.busWrite a v).LcdConsistentNext := by
  rcases busWrite_cases s a v with h | h | ⟨_, _, h⟩ | h | h | h | h <;> rw [h]
  · exact hs
  · unfold cpuWrite
    split_ifs <;> exact { hs with }
  · exact { hs with }
  · exact { hs with }
  · obtain ⟨_, _, _, _, _, h, _⟩ := timerWrite_eq s a.toNat v
    rw [h]
    exact { hs with }
  · exact lcdWrite_lcdConsistentNext _ v hs
  · rw [joypadWrite_eq]
    exact iteInduction (fun _ => { hs with }) fun _ => hs

theorem lcdConsistentNext_keptByCpu : KeptByCpu State.LcdConsistentNext where
  cpu h hs := by
    obtain ⟨_, _, rfl, _⟩ := h
    exact { hs with }
  busWrite a v hs := busWrite_lcdConsistentNext a v hs

/-- Settles O59: the mode step makes the LCD consistent for the next tick, and no write of the CPU ends that. -/
theorem stepsKeepTheLcdConsistent : Obligations.StepsKeepTheLcdConsistent := by
  intro s t hs h
  obtain ⟨u, hu, rfl⟩ := lcdConsistentNext_keptByCpu.step h (deviceSteps_lcdConsistentNext hs)
  exact hu

end Sys2Proof.Machine
end

section
/-! PROOFS. Every reachable state meets the invariant (70_reset_and_hazards.md section 1, 60_exceptions.md
section 6; O56, O60): both launches meet it, and steps and host events keep it. -/

namespace Sys2Proof.Machine

/-! ### The launches -/

theorem resetWith_inv {bootRom cartridge : Memory} (hb : bootRom.ok 256 = true)
    (hc : cartridge.ok 32768 = true) : (State.resetWith bootRom cartridge).Inv where
  canonical :=
    { hram := rfl, vram := rfl, oam := rfl, wram := rfl, bootRom := hb, cartridge := hc }
  legal :=
    { flags := (by decide : Cpu.reset.f &&& 0x0F = 0)
      clock := fun _ w _ => Nat.zero_le w
      divc := rfl
      dma := ⟨Nat.zero_le 160, nofun⟩
      keys := (by decide : Joypad.reset.p1i.extractLsb' 0 4 = Joypad.reset.keyBits) }
  lcd :=
    { scheduled := ⟨fun _ => rfl, fun _ => rfl⟩
      clock := nofun
      power := iff_of_false (by decide : ¬Lcd.reset.lcdc.getLsbD 7 = true) (not_not.mpr rfl)
      mode := rfl
      line := rfl
      frame := rfl
      width := nofun
      image := ⟨List.length_replicate, fun _ h => List.eq_of_mem_replicate h ▸ List.length_replicate⟩ }

/-- POST_BOOT differs in registers and in the LCD, which has just been turned on (R705). -/
theorem postBoot_inv {bootRom cartridge : Memory} (hb : bootRom.ok 256 = true)
    (hc : cartridge.ok 32768 = true) : (postBoot bootRom cartridge).Inv := by
  obtain ⟨hcanonical, hlegal, hlcd⟩ := resetWith_inv hb hc
  rw [postBoot_eq]
  exact {
    canonical := { hcanonical with }
    legal := { hlegal with flags := (rfl : (0xB0 : Byte) &&& 0x0F = 0) }
    lcd := { hlcd with
      scheduled := ⟨nofun, nofun⟩
      clock := fun _ _ => Nat.zero_le _
      power := iff_of_true (rfl : (0x91 : Byte).getLsbD 7 = true) nofun } }

theorem launch_inv (o : Launch) {bootRom cartridge : Memory} (hb : bootRom.ok 256 = true)
    (hc : cartridge.ok 32768 = true) : (launch o bootRom cartridge).Inv :=
  match o with
  | .boot => resetWith_inv hb hc
  | .postBoot => postBoot_inv hb hc

/-- Settles O56: the state without images is the BOOT launch with two empty ones. -/
theorem resetMeetsTheInvariant : Obligations.ResetMeetsTheInvariant :=
  ⟨resetWith_inv rfl rfl, fun o _ _ hb hc => launch_inv o hb hc⟩

/-! ### Steps and host events -/

theorem step_inv {s t : State} (h : step s = .next t) (hs : s.Inv) : t.Inv where
  canonical := stepsKeepMemoriesCanonical s t hs.canonical hs.legal h
  legal := stepsKeepRegistersLegal s t hs.legal h
  lcd := stepsKeepTheLcdConsistent s t hs.lcd h

theorem raiseFatal_inv {s : State} (r : FaultRecord) (hs : s.Inv) : (s.raiseFatal r).Inv where
  canonical := { hs.canonical with }
  legal := { hs.legal with clock := nofun }
  lcd := { hs.lcd with }

theorem afterSelect_inv {s : State} (line0 line1 : BitVec 4) (select : BitVec 2) (hs : s.Inv) :
    (afterSelect s line0 line1 select).Inv where
  canonical := { hs.canonical with }
  legal := { hs.legal with keys := (afterSelect_devicesLegal line0 line1 select hs.legal.devices).2.2 }
  lcd := { hs.lcd with }

/-- Settles O60, by induction on how the state is reached. -/
theorem everyReachableStateMeetsTheInvariant : Obligations.EveryReachableStateMeetsTheInvariant := by
  intro s h
  induction h with
  | launched o bootRom cartridge hb hc => exact launch_inv o hb hc
  | stepped s t _ hstep ih => exact step_inv hstep ih
  | hosted s e _ ih => exact hostEvent_keeps step_inv raiseFatal_inv afterSelect_inv e ih

end Sys2Proof.Machine
end
